-- ==== Sys2Proof/Word.lean ====
section
/-! DEFINITION. The widths of 00_scope.md R5 and 10_state.md R13 as bit vectors. All values are unsigned (R6). -/

namespace Sys2Proof

/-- An opcode: "a 16-bit unsigned value, the unit of input" (R5, R8, R40). -/
abbrev Word := BitVec 16

/-- One byte of the ROM image, and the operand `nn` (R5, R34). -/
abbrev Byte := BitVec 8

/-- The operands `x`, `y`, `n`, and the top nibble (R5, R6). -/
abbrev Nibble := BitVec 4

/-- The operand `nnn`, called a 12-bit immediate address; a number, never used as an address here (R5, R22). -/
abbrev Addr := BitVec 12

/-- The `family` wire (R13, R16). -/
abbrev Tag := BitVec 6

/-- The `uses` wire: bit 0 `x`, bit 1 `y`, bit 2 `n`, bit 3 `nn`, bit 4 `nnn` (R13, R66). -/
abbrev UsesMask := BitVec 5

end Sys2Proof
end

