-- ==== Sys2Proof/Syntax.lean ====
section
/-! DEFINITION. The syntax: the 36 families, the instructions (one constructor for each row of opcode_table.json), the
output record and its wires, the operand shapes, a row of the opcode table. -/

namespace Sys2Proof

/-- The family enumeration (R16): the 35 defined families in the table's order, and `Unknown`, the value given to a word
that no defined row claims (R8, R115). `ret` is the spec's `Return` (`return` is a word of Lean). -/
inductive Family where
  | clearScreen
  | ret
  | callMachineRoutine
  | jump
  | callSubroutine
  | skipEqualImmediate
  | skipNotEqualImmediate
  | skipEqualRegister
  | setImmediate
  | addImmediate
  | assign
  | or
  | and
  | xor
  | addReg
  | subReg
  | shiftRight
  | subReverse
  | shiftLeft
  | skipNotEqualRegister
  | setIndex
  | jumpAddOffset
  | random
  | draw
  | skipIfKeyPressed
  | skipIfKeyNotPressed
  | getDelayTimer
  | waitKey
  | setDelayTimer
  | setSoundTimer
  | addIndex
  | setIndexToSpriteAddr
  | storeBCD
  | dumpRegisters
  | loadRegisters
  | unknown
deriving DecidableEq, Repr

/-- An instruction: a family with the operands it uses (R43, R66), and for `Unknown` the word itself. "A defined
instruction is fully described by its family and its used operands ...; for Unknown, raw is the whole description"
(R66). -/
inductive Instr where
  /-- `ClearScreen`, 0x00E0 (R80). -/
  | clearScreen
  /-- `Return`, 0x00EE (R81). -/
  | ret
  /-- `CallMachineRoutine`, 0x0NNN (R82). -/
  | callMachineRoutine (nnn : Addr)
  /-- `Jump`, 0x1NNN (R83). -/
  | jump (nnn : Addr)
  /-- `CallSubroutine`, 0x2NNN (R84). -/
  | callSubroutine (nnn : Addr)
  /-- `SkipEqualImmediate`, 0x3XNN (R85). -/
  | skipEqualImmediate (x : Nibble) (nn : Byte)
  /-- `SkipNotEqualImmediate`, 0x4XNN (R86). -/
  | skipNotEqualImmediate (x : Nibble) (nn : Byte)
  /-- `SkipEqualRegister`, 0x5XY0 (R93). -/
  | skipEqualRegister (x : Nibble) (y : Nibble)
  /-- `SetImmediate`, 0x6XNN (R87). -/
  | setImmediate (x : Nibble) (nn : Byte)
  /-- `AddImmediate`, 0x7XNN (R88). -/
  | addImmediate (x : Nibble) (nn : Byte)
  /-- `Assign`, 0x8XY0 (R95). -/
  | assign (x : Nibble) (y : Nibble)
  /-- `Or`, 0x8XY1 (R96). -/
  | or (x : Nibble) (y : Nibble)
  /-- `And`, 0x8XY2 (R97). -/
  | and (x : Nibble) (y : Nibble)
  /-- `Xor`, 0x8XY3 (R98). -/
  | xor (x : Nibble) (y : Nibble)
  /-- `AddReg`, 0x8XY4 (R99). -/
  | addReg (x : Nibble) (y : Nibble)
  /-- `SubReg`, 0x8XY5 (R100). -/
  | subReg (x : Nibble) (y : Nibble)
  /-- `ShiftRight`, 0x8XY6 (R101). -/
  | shiftRight (x : Nibble) (y : Nibble)
  /-- `SubReverse`, 0x8XY7 (R102). -/
  | subReverse (x : Nibble) (y : Nibble)
  /-- `ShiftLeft`, 0x8XYE (R103). -/
  | shiftLeft (x : Nibble) (y : Nibble)
  /-- `SkipNotEqualRegister`, 0x9XY0 (R94). -/
  | skipNotEqualRegister (x : Nibble) (y : Nibble)
  /-- `SetIndex`, 0xANNN (R89). -/
  | setIndex (nnn : Addr)
  /-- `JumpAddOffset`, 0xBNNN (R90). -/
  | jumpAddOffset (nnn : Addr)
  /-- `Random`, 0xCXNN (R91). -/
  | random (x : Nibble) (nn : Byte)
  /-- `Draw`, 0xDXYN (R92). -/
  | draw (x : Nibble) (y : Nibble) (n : Nibble)
  /-- `SkipIfKeyPressed`, 0xEX9E (R104). -/
  | skipIfKeyPressed (x : Nibble)
  /-- `SkipIfKeyNotPressed`, 0xEXA1 (R105). -/
  | skipIfKeyNotPressed (x : Nibble)
  /-- `GetDelayTimer`, 0xFX07 (R106). -/
  | getDelayTimer (x : Nibble)
  /-- `WaitKey`, 0xFX0A (R107). -/
  | waitKey (x : Nibble)
  /-- `SetDelayTimer`, 0xFX15 (R108). -/
  | setDelayTimer (x : Nibble)
  /-- `SetSoundTimer`, 0xFX18 (R109). -/
  | setSoundTimer (x : Nibble)
  /-- `AddIndex`, 0xFX1E (R110). -/
  | addIndex (x : Nibble)
  /-- `SetIndexToSpriteAddr`, 0xFX29 (R111). -/
  | setIndexToSpriteAddr (x : Nibble)
  /-- `StoreBCD`, 0xFX33 (R112). -/
  | storeBCD (x : Nibble)
  /-- `DumpRegisters`, 0xFX55 (R113). -/
  | dumpRegisters (x : Nibble)
  /-- `LoadRegisters`, 0xFX65 (R114). -/
  | loadRegisters (x : Nibble)
  /-- `Unknown`, every word no other row claims (R115). -/
  | unknown (raw : Word)
deriving DecidableEq, Repr

/-- The output record `DecodedInstruction` (R14, R64): family, the five operand fields, the input itself, and the two
helper outputs `uses` and `unknown`. -/
structure DecodedInstruction where
  family  : Family
  x       : Nibble
  y       : Nibble
  n       : Nibble
  nn      : Byte
  nnn     : Addr
  raw     : Word
  uses    : UsesMask
  unknown : Bool
deriving DecidableEq, Repr

/-- The nine output ports of `chip8_idec` as plain binary wires (R13). -/
structure Ports where
  family  : Tag
  unknown : BitVec 1
  x       : Nibble
  y       : Nibble
  n       : Nibble
  nn      : Byte
  nnn     : Addr
  raw     : Word
  uses    : UsesMask
deriving DecidableEq, Repr

/-- The six operand shapes (R43); `unknown` is the table's word for the row that has none (R54). -/
inductive Shape where
  | none
  | nnn
  | xnn
  | xy
  | xyn
  | x
  | unknown
deriving DecidableEq, Repr

/-- The names of the operand fields in opcode_table.json (R14, R54). -/
inductive OperandName where
  | x
  | y
  | n
  | nn
  | nnn
  | raw
deriving DecidableEq, Repr

/-- "each used operand with its `hi` and `lo` bit" (R54). -/
structure OperandField where
  name : OperandName
  hi   : Nat
  lo   : Nat
deriving DecidableEq, Repr

/-- One row of opcode_table.json, with every key that R54 names (R50, R54). `mnemonic` is the family name as text and `family`
the same name as a value; `shape` is the table's `format`, `value` its `match`, `excepted` its `except`. The tag numbers are
decision D3 (log entry 8). -/
structure OpcodeRow where
  mnemonic : String
  family   : Family
  tag      : Tag
  shape    : Shape
  mask     : Word
  value    : Word
  excepted : List Word
  fallback : Bool
  encoding : String
  fields   : List OperandField
  uses     : UsesMask
  count    : Nat
  rule     : String
  src      : String
deriving DecidableEq, Repr

/-- Why a list of bytes gives no opcode: the driver forms one from two consecutive bytes only (R30, R33). No 16-bit value is
ever rejected (R60). -/
inductive DecodeError where
  /-- No byte is left (safe: nothing is claimed of it). -/
  | noByte
  /-- One byte is left; it has no partner (R33) (safe: nothing is claimed of it). -/
  | trailingByte
deriving DecidableEq, Repr

end Sys2Proof
end

