-- ==== Sys2Proof/Machine/Flags.lean ====
section
/-! DEFINITION. The block computes no flag and has no condition code (R19). What stands here are the two helper outputs that
are functions of the family, `uses` (R66) and `unknown` (R17), the shape of a family (R43), and its number on the wire
(R16). -/

namespace Sys2Proof.Machine

/-- `USES(family)`, the column "Operands used" as a 5-bit mask (R66). -/
def usesOf (f : Family) : UsesMask :=
  match f with
  | .clearScreen | .ret => 0b00000#5
  | .callMachineRoutine | .jump | .callSubroutine | .setIndex | .jumpAddOffset => 0b10000#5
  | .skipEqualImmediate | .skipNotEqualImmediate | .setImmediate | .addImmediate | .random => 0b01001#5
  | .skipEqualRegister | .skipNotEqualRegister | .assign | .or | .and
  | .xor | .addReg | .subReg | .shiftRight | .subReverse | .shiftLeft => 0b00011#5
  | .draw => 0b00111#5
  | .skipIfKeyPressed | .skipIfKeyNotPressed | .getDelayTimer | .waitKey | .setDelayTimer
  | .setSoundTimer | .addIndex | .setIndexToSpriteAddr | .storeBCD | .dumpRegisters | .loadRegisters => 0b00001#5
  | .unknown => 0b00000#5

/-- `unknown = 1` exactly when the family is `Unknown` (R17). -/
def unknownOf (f : Family) : Bool := f == .unknown

/-- The shape of a family (R43). -/
def shapeOf (f : Family) : Shape :=
  match f with
  | .clearScreen | .ret => .none
  | .callMachineRoutine | .jump | .callSubroutine | .setIndex | .jumpAddOffset => .nnn
  | .skipEqualImmediate | .skipNotEqualImmediate | .setImmediate | .addImmediate | .random => .xnn
  | .skipEqualRegister | .assign | .or | .and | .xor
  | .addReg | .subReg | .shiftRight | .subReverse | .shiftLeft | .skipNotEqualRegister => .xy
  | .draw => .xyn
  | .skipIfKeyPressed | .skipIfKeyNotPressed | .getDelayTimer | .waitKey | .setDelayTimer
  | .setSoundTimer | .addIndex | .setIndexToSpriteAddr | .storeBCD | .dumpRegisters | .loadRegisters => .x
  | .unknown => .unknown

/-- The tag number that stands on the 6-bit `family` wire (R16, decision D3). -/
def tagOf (f : Family) : Tag :=
  match f with
  | .clearScreen => 0#6
  | .ret => 1#6
  | .callMachineRoutine => 2#6
  | .jump => 3#6
  | .callSubroutine => 4#6
  | .skipEqualImmediate => 5#6
  | .skipNotEqualImmediate => 6#6
  | .skipEqualRegister => 7#6
  | .setImmediate => 8#6
  | .addImmediate => 9#6
  | .assign => 10#6
  | .or => 11#6
  | .and => 12#6
  | .xor => 13#6
  | .addReg => 14#6
  | .subReg => 15#6
  | .shiftRight => 16#6
  | .subReverse => 17#6
  | .shiftLeft => 18#6
  | .skipNotEqualRegister => 19#6
  | .setIndex => 20#6
  | .jumpAddOffset => 21#6
  | .random => 22#6
  | .draw => 23#6
  | .skipIfKeyPressed => 24#6
  | .skipIfKeyNotPressed => 25#6
  | .getDelayTimer => 26#6
  | .waitKey => 27#6
  | .setDelayTimer => 28#6
  | .setSoundTimer => 29#6
  | .addIndex => 30#6
  | .setIndexToSpriteAddr => 31#6
  | .storeBCD => 32#6
  | .dumpRegisters => 33#6
  | .loadRegisters => 34#6
  | .unknown => 35#6

/-- The record laid out on the nine output ports (R13, R14). -/
def portsOf (d : DecodedInstruction) : Ports :=
  { family := tagOf d.family, unknown := BitVec.ofBool d.unknown, x := d.x, y := d.y, n := d.n,
    nn := d.nn, nnn := d.nnn, raw := d.raw, uses := d.uses }

/-- Two records are the same instruction when they have the same family and agree on every field the family uses, and,
for `Unknown`, on `raw` (R18). -/
abbrev SameInstruction (d e : DecodedInstruction) : Prop :=
  d.family = e.family
  ∧ ((usesOf d.family).getLsbD 0 = true → d.x = e.x)
  ∧ ((usesOf d.family).getLsbD 1 = true → d.y = e.y)
  ∧ ((usesOf d.family).getLsbD 2 = true → d.n = e.n)
  ∧ ((usesOf d.family).getLsbD 3 = true → d.nn = e.nn)
  ∧ ((usesOf d.family).getLsbD 4 = true → d.nnn = e.nnn)
  ∧ (d.family = .unknown → d.raw = e.raw)

end Sys2Proof.Machine
end

