-- ==== Sys2Proof/Machine/Operands.lean ====
section
/-! DEFINITION. Operand slicing (R42, R61) and its inverse, operand placement (R72); opcode assembly (R30); the unassigned
words (R51). -/

namespace Sys2Proof.Machine

/-- `top = opcode[15:12]` (R42). -/
def topOf (w : Word) : Nibble := w.extractLsb' 12 4

/-- `x = opcode[11:8]` (R42). -/
def xOf (w : Word) : Nibble := w.extractLsb' 8 4

/-- `y = opcode[7:4]` (R42). -/
def yOf (w : Word) : Nibble := w.extractLsb' 4 4

/-- `n = opcode[3:0]` (R42). -/
def nOf (w : Word) : Nibble := w.extractLsb' 0 4

/-- `nn = opcode[7:0]` (R42). -/
def nnOf (w : Word) : Byte := w.extractLsb' 0 8

/-- `nnn = opcode[11:0]` (R42). -/
def nnnOf (w : Word) : Addr := w.extractLsb' 0 12

/-- `place` of R72: `x` at bits 11:8. -/
def placeX (x : Nibble) : Word := (x.setWidth 16) <<< 8

/-- `place` of R72: `y` at bits 7:4. -/
def placeY (y : Nibble) : Word := (y.setWidth 16) <<< 4

/-- `place` of R72: `n` at bits 3:0. -/
def placeN (n : Nibble) : Word := n.setWidth 16

/-- `place` of R72: `nn` at bits 7:0. -/
def placeNN (nn : Byte) : Word := nn.setWidth 16

/-- `place` of R72: `nnn` at bits 11:0. -/
def placeNNN (nnn : Addr) : Word := nnn.setWidth 16

/-- `opcode = (byte[i] << 8) | byte[i+1]`, the shift done at 16 bits (R30): the first byte is the high one. -/
def assemble (first second : Byte) : Word := ((first.setWidth 16) <<< 8) ||| second.setWidth 16

/-- The byte of an opcode at the lower offset of the ROM, `opcode[15:8]` (R30). -/
def firstByte (w : Word) : Byte := w.extractLsb' 8 8

/-- The byte of an opcode at the higher offset of the ROM, `opcode[7:0]` (R30). -/
def secondByte (w : Word) : Byte := w.extractLsb' 0 8

/-- The `Unknown` set, by the table of R51 and the condition of R115. -/
def unassigned (w : Word) : Bool :=
  (topOf w == 0x5#4 && nOf w != 0x0#4)
  || (topOf w == 0x8#4 && [0x8#4, 0x9#4, 0xA#4, 0xB#4, 0xC#4, 0xD#4, 0xF#4].contains (nOf w))
  || (topOf w == 0x9#4 && nOf w != 0x0#4)
  || (topOf w == 0xE#4 && !([0x9E#8, 0xA1#8].contains (nnOf w)))
  || (topOf w == 0xF#4 &&
      !([0x07#8, 0x0A#8, 0x15#8, 0x18#8, 0x1E#8, 0x29#8, 0x33#8, 0x55#8, 0x65#8].contains (nnOf w)))

/-- The free bits of a shape: where its used operands stand (R43). -/
def freeBits (sh : Shape) : Word :=
  match sh with
  | .none => 0x0000#16
  | .nnn => 0x0FFF#16
  | .xnn => 0x0FFF#16
  | .xy => 0x0FF0#16
  | .xyn => 0x0FFF#16
  | .x => 0x0F00#16
  | .unknown => 0xFFFF#16

/-- The used operands of a shape with their `hi` and `lo` bits, in the table's order (R42, R43, R54). -/
def fieldsOf (sh : Shape) : List OperandField :=
  match sh with
  | .none => []
  | .nnn => [⟨.nnn, 11, 0⟩]
  | .xnn => [⟨.x, 11, 8⟩, ⟨.nn, 7, 0⟩]
  | .xy => [⟨.x, 11, 8⟩, ⟨.y, 7, 4⟩]
  | .xyn => [⟨.x, 11, 8⟩, ⟨.y, 7, 4⟩, ⟨.n, 3, 0⟩]
  | .x => [⟨.x, 11, 8⟩]
  | .unknown => [⟨.raw, 15, 0⟩]

/-- The letter that stands for a bit of an operand in the `encoding` column (R54). -/
def letterOf (name : OperandName) : Char :=
  match name with
  | .x => 'x'
  | .y => 'y'
  | .n | .nn | .nnn => 'n'
  | .raw => 'r'

/-- The character of the `encoding` column at bit `i`: a fixed bit spells its value, a free bit the letter of its field; `?` for
a bit that is in neither, which no row has (R54, R66). -/
def spellBit (mask value : Word) (fields : List OperandField) (i : Nat) : Char :=
  if mask.getLsbD i then (if value.getLsbD i then '1' else '0')
  else ((fields.find? (fun f => f.lo ≤ i && i ≤ f.hi)).map (fun f => letterOf f.name)).getD '?'

/-- The `encoding` column spelled from the other columns, bit 15 first (R54). -/
def spellEncoding (mask value : Word) (fields : List OperandField) : List Char :=
  [15, 14, 13, 12, 11, 10, 9, 8, 7, 6, 5, 4, 3, 2, 1, 0].map (spellBit mask value fields)

end Sys2Proof.Machine
end

