-- ==== Sys2Proof/WellFormed.lean ====
section
/-! DEFINITION. Which instruction terms stand for an instruction of the machine. The operand widths are in the types (R5), so
two checks remain: `CallMachineRoutine` never has the two `nnn` that are other instructions (R53, R72, R82), and `Unknown`
holds a word that no defined row claims (R51, R71, R115). -/

namespace Sys2Proof

open Sys2Proof.Machine

/-- An instruction term that some opcode decodes to. -/
def Instr.wellFormed (i : Instr) : Bool :=
  match i with
  | .clearScreen => true
  | .ret => true
  | .callMachineRoutine nnn => nnn != 0x0E0#12 && nnn != 0x0EE#12
  | .jump _ => true
  | .callSubroutine _ => true
  | .skipEqualImmediate _ _ => true
  | .skipNotEqualImmediate _ _ => true
  | .skipEqualRegister _ _ => true
  | .setImmediate _ _ => true
  | .addImmediate _ _ => true
  | .assign _ _ => true
  | .or _ _ => true
  | .and _ _ => true
  | .xor _ _ => true
  | .addReg _ _ => true
  | .subReg _ _ => true
  | .shiftRight _ _ => true
  | .subReverse _ _ => true
  | .shiftLeft _ _ => true
  | .skipNotEqualRegister _ _ => true
  | .setIndex _ => true
  | .jumpAddOffset _ => true
  | .random _ _ => true
  | .draw _ _ _ => true
  | .skipIfKeyPressed _ => true
  | .skipIfKeyNotPressed _ => true
  | .getDelayTimer _ => true
  | .waitKey _ => true
  | .setDelayTimer _ => true
  | .setSoundTimer _ => true
  | .addIndex _ => true
  | .setIndexToSpriteAddr _ => true
  | .storeBCD _ => true
  | .dumpRegisters _ => true
  | .loadRegisters _ => true
  | .unknown raw => unassigned raw

end Sys2Proof
end

