-- ==== Sys2Proof/Decode.lean ====
section
/-! DEFINITION. `decode` as the two-level mux tree (R60 to R66), the instruction it stands for, the opcode table and its
first-match reading (R50, R54, R67), decoding of ROM bytes (R30, R33), and after them the encoder of R72. -/

namespace Sys2Proof

open Sys2Proof.Machine

/-- Level 2 under `top == 0x0`: the whole of `nnn` (R45, R63). -/
def sub0 (nnn : Addr) : Family :=
  if nnn = 0x0E0#12 then .clearScreen
  else if nnn = 0x0EE#12 then .ret
  else .callMachineRoutine

/-- Level 2 under `top == 0x5` (R47, R63). -/
def sub5 (n : Nibble) : Family :=
  if n = 0x0#4 then .skipEqualRegister else .unknown

/-- Level 2 under `top == 0x8` (R46, R63); the pairing of names and numbers is decision D19 (log entry 10). -/
def sub8 (n : Nibble) : Family :=
  if n = 0x0#4 then .assign
  else if n = 0x1#4 then .or
  else if n = 0x2#4 then .and
  else if n = 0x3#4 then .xor
  else if n = 0x4#4 then .addReg
  else if n = 0x5#4 then .subReg
  else if n = 0x6#4 then .shiftRight
  else if n = 0x7#4 then .subReverse
  else if n = 0xE#4 then .shiftLeft
  else .unknown

/-- Level 2 under `top == 0x9` (R47, R63). -/
def sub9 (n : Nibble) : Family :=
  if n = 0x0#4 then .skipNotEqualRegister else .unknown

/-- Level 2 under `top == 0xE` (R48, R63). -/
def subE (nn : Byte) : Family :=
  if nn = 0x9E#8 then .skipIfKeyPressed
  else if nn = 0xA1#8 then .skipIfKeyNotPressed
  else .unknown

/-- Level 2 under `top == 0xF` (R49, R63). -/
def subF (nn : Byte) : Family :=
  if nn = 0x07#8 then .getDelayTimer
  else if nn = 0x0A#8 then .waitKey
  else if nn = 0x15#8 then .setDelayTimer
  else if nn = 0x18#8 then .setSoundTimer
  else if nn = 0x1E#8 then .addIndex
  else if nn = 0x29#8 then .setIndexToSpriteAddr
  else if nn = 0x33#8 then .storeBCD
  else if nn = 0x55#8 then .dumpRegisters
  else if nn = 0x65#8 then .loadRegisters
  else .unknown

/-- Level 1, the 16-way select on `top`; six of its inputs are the level 2 outputs (R44, R62, R64). -/
def familyOf (w : Word) : Family :=
  match (topOf w).toNat with
  | 0x0 => sub0 (nnnOf w)
  | 0x1 => .jump
  | 0x2 => .callSubroutine
  | 0x3 => .skipEqualImmediate
  | 0x4 => .skipNotEqualImmediate
  | 0x5 => sub5 (nOf w)
  | 0x6 => .setImmediate
  | 0x7 => .addImmediate
  | 0x8 => sub8 (nOf w)
  | 0x9 => sub9 (nOf w)
  | 0xA => .setIndex
  | 0xB => .jumpAddOffset
  | 0xC => .random
  | 0xD => .draw
  | 0xE => subE (nnOf w)
  | _ => subF (nnOf w)

/-- The whole function `decode : opcode -> DecodedInstruction` (R60, R64): the operand fields are always the slices (R18,
decision D4), `raw` is the input for every family (R14). -/
def decode (w : Word) : DecodedInstruction :=
  { family := familyOf w
    x := xOf w
    y := yOf w
    n := nOf w
    nn := nnOf w
    nnn := nnnOf w
    raw := w
    uses := usesOf (familyOf w)
    unknown := unknownOf (familyOf w) }

/-- A family with the operands it uses, taken from the slices of a word (R42, R66); `Unknown` takes the word itself. -/
def instrOf (f : Family) (w : Word) : Instr :=
  match f with
  | .clearScreen => .clearScreen
  | .ret => .ret
  | .callMachineRoutine => .callMachineRoutine (nnnOf w)
  | .jump => .jump (nnnOf w)
  | .callSubroutine => .callSubroutine (nnnOf w)
  | .skipEqualImmediate => .skipEqualImmediate (xOf w) (nnOf w)
  | .skipNotEqualImmediate => .skipNotEqualImmediate (xOf w) (nnOf w)
  | .skipEqualRegister => .skipEqualRegister (xOf w) (yOf w)
  | .setImmediate => .setImmediate (xOf w) (nnOf w)
  | .addImmediate => .addImmediate (xOf w) (nnOf w)
  | .assign => .assign (xOf w) (yOf w)
  | .or => .or (xOf w) (yOf w)
  | .and => .and (xOf w) (yOf w)
  | .xor => .xor (xOf w) (yOf w)
  | .addReg => .addReg (xOf w) (yOf w)
  | .subReg => .subReg (xOf w) (yOf w)
  | .shiftRight => .shiftRight (xOf w) (yOf w)
  | .subReverse => .subReverse (xOf w) (yOf w)
  | .shiftLeft => .shiftLeft (xOf w) (yOf w)
  | .skipNotEqualRegister => .skipNotEqualRegister (xOf w) (yOf w)
  | .setIndex => .setIndex (nnnOf w)
  | .jumpAddOffset => .jumpAddOffset (nnnOf w)
  | .random => .random (xOf w) (nnOf w)
  | .draw => .draw (xOf w) (yOf w) (nOf w)
  | .skipIfKeyPressed => .skipIfKeyPressed (xOf w)
  | .skipIfKeyNotPressed => .skipIfKeyNotPressed (xOf w)
  | .getDelayTimer => .getDelayTimer (xOf w)
  | .waitKey => .waitKey (xOf w)
  | .setDelayTimer => .setDelayTimer (xOf w)
  | .setSoundTimer => .setSoundTimer (xOf w)
  | .addIndex => .addIndex (xOf w)
  | .setIndexToSpriteAddr => .setIndexToSpriteAddr (xOf w)
  | .storeBCD => .storeBCD (xOf w)
  | .dumpRegisters => .dumpRegisters (xOf w)
  | .loadRegisters => .loadRegisters (xOf w)
  | .unknown => .unknown w

/-- The instruction an opcode is. Total: every one of the 65536 words is one (R52, R60, R68). -/
def decodeInstr (w : Word) : Instr := instrOf (familyOf w) w

/-- The instruction at the head of a list of ROM bytes, and the bytes after it (R30, R32). A lone trailing byte gives no
opcode and is rejected by name (R33). -/
def decodeBytes (bytes : List Byte) : Except DecodeError (Instr × List Byte) :=
  match bytes with
  | first :: second :: rest => .ok (decodeInstr (assemble first second), rest)
  | [_] => .error .trailingByte
  | [] => .error .noByte

/-- Rows with top nibble 0 to 7 (R50). -/
def rowsLow : List OpcodeRow :=
  [ { mnemonic := "ClearScreen", family := .clearScreen, tag := 0#6,
      shape := .none, mask := 0xFFFF#16, value := 0x00E0#16, excepted := [],
      fallback := false, encoding := "0000000011100000",
      fields := [], uses := 0#5, count := 1, rule := "R80",
      src := "the source §4.1" },
    { mnemonic := "Return", family := .ret, tag := 1#6,
      shape := .none, mask := 0xFFFF#16, value := 0x00EE#16, excepted := [],
      fallback := false, encoding := "0000000011101110",
      fields := [], uses := 0#5, count := 1, rule := "R81",
      src := "the source §4.1" },
    { mnemonic := "CallMachineRoutine", family := .callMachineRoutine, tag := 2#6,
      shape := .nnn, mask := 0xF000#16, value := 0x0000#16, excepted := [0x00E0#16, 0x00EE#16],
      fallback := false, encoding := "0000nnnnnnnnnnnn",
      fields := [⟨.nnn, 11, 0⟩], uses := 16#5, count := 4094, rule := "R82",
      src := "the source §4.1" },
    { mnemonic := "Jump", family := .jump, tag := 3#6,
      shape := .nnn, mask := 0xF000#16, value := 0x1000#16, excepted := [],
      fallback := false, encoding := "0001nnnnnnnnnnnn",
      fields := [⟨.nnn, 11, 0⟩], uses := 16#5, count := 4096, rule := "R83",
      src := "the source §4.1" },
    { mnemonic := "CallSubroutine", family := .callSubroutine, tag := 4#6,
      shape := .nnn, mask := 0xF000#16, value := 0x2000#16, excepted := [],
      fallback := false, encoding := "0010nnnnnnnnnnnn",
      fields := [⟨.nnn, 11, 0⟩], uses := 16#5, count := 4096, rule := "R84",
      src := "the source §4.1" },
    { mnemonic := "SkipEqualImmediate", family := .skipEqualImmediate, tag := 5#6,
      shape := .xnn, mask := 0xF000#16, value := 0x3000#16, excepted := [],
      fallback := false, encoding := "0011xxxxnnnnnnnn",
      fields := [⟨.x, 11, 8⟩, ⟨.nn, 7, 0⟩], uses := 9#5, count := 4096, rule := "R85",
      src := "the source §4.1" },
    { mnemonic := "SkipNotEqualImmediate", family := .skipNotEqualImmediate, tag := 6#6,
      shape := .xnn, mask := 0xF000#16, value := 0x4000#16, excepted := [],
      fallback := false, encoding := "0100xxxxnnnnnnnn",
      fields := [⟨.x, 11, 8⟩, ⟨.nn, 7, 0⟩], uses := 9#5, count := 4096, rule := "R86",
      src := "the source §4.1" },
    { mnemonic := "SkipEqualRegister", family := .skipEqualRegister, tag := 7#6,
      shape := .xy, mask := 0xF00F#16, value := 0x5000#16, excepted := [],
      fallback := false, encoding := "0101xxxxyyyy0000",
      fields := [⟨.x, 11, 8⟩, ⟨.y, 7, 4⟩], uses := 3#5, count := 256, rule := "R93",
      src := "the source §4.1" },
    { mnemonic := "SetImmediate", family := .setImmediate, tag := 8#6,
      shape := .xnn, mask := 0xF000#16, value := 0x6000#16, excepted := [],
      fallback := false, encoding := "0110xxxxnnnnnnnn",
      fields := [⟨.x, 11, 8⟩, ⟨.nn, 7, 0⟩], uses := 9#5, count := 4096, rule := "R87",
      src := "the source §4.1" },
    { mnemonic := "AddImmediate", family := .addImmediate, tag := 9#6,
      shape := .xnn, mask := 0xF000#16, value := 0x7000#16, excepted := [],
      fallback := false, encoding := "0111xxxxnnnnnnnn",
      fields := [⟨.x, 11, 8⟩, ⟨.nn, 7, 0⟩], uses := 9#5, count := 4096, rule := "R88",
      src := "the source §4.1" } ]

/-- Rows with top nibble 8 and 9 (R50). -/
def rowsMid : List OpcodeRow :=
  [ { mnemonic := "Assign", family := .assign, tag := 10#6,
      shape := .xy, mask := 0xF00F#16, value := 0x8000#16, excepted := [],
      fallback := false, encoding := "1000xxxxyyyy0000",
      fields := [⟨.x, 11, 8⟩, ⟨.y, 7, 4⟩], uses := 3#5, count := 256, rule := "R95",
      src := "the source §4.1" },
    { mnemonic := "Or", family := .or, tag := 11#6,
      shape := .xy, mask := 0xF00F#16, value := 0x8001#16, excepted := [],
      fallback := false, encoding := "1000xxxxyyyy0001",
      fields := [⟨.x, 11, 8⟩, ⟨.y, 7, 4⟩], uses := 3#5, count := 256, rule := "R96",
      src := "the source §4.1" },
    { mnemonic := "And", family := .and, tag := 12#6,
      shape := .xy, mask := 0xF00F#16, value := 0x8002#16, excepted := [],
      fallback := false, encoding := "1000xxxxyyyy0010",
      fields := [⟨.x, 11, 8⟩, ⟨.y, 7, 4⟩], uses := 3#5, count := 256, rule := "R97",
      src := "the source §4.1" },
    { mnemonic := "Xor", family := .xor, tag := 13#6,
      shape := .xy, mask := 0xF00F#16, value := 0x8003#16, excepted := [],
      fallback := false, encoding := "1000xxxxyyyy0011",
      fields := [⟨.x, 11, 8⟩, ⟨.y, 7, 4⟩], uses := 3#5, count := 256, rule := "R98",
      src := "the source §4.1" },
    { mnemonic := "AddReg", family := .addReg, tag := 14#6,
      shape := .xy, mask := 0xF00F#16, value := 0x8004#16, excepted := [],
      fallback := false, encoding := "1000xxxxyyyy0100",
      fields := [⟨.x, 11, 8⟩, ⟨.y, 7, 4⟩], uses := 3#5, count := 256, rule := "R99",
      src := "the source §4.1" },
    { mnemonic := "SubReg", family := .subReg, tag := 15#6,
      shape := .xy, mask := 0xF00F#16, value := 0x8005#16, excepted := [],
      fallback := false, encoding := "1000xxxxyyyy0101",
      fields := [⟨.x, 11, 8⟩, ⟨.y, 7, 4⟩], uses := 3#5, count := 256, rule := "R100",
      src := "the source §4.1" },
    { mnemonic := "ShiftRight", family := .shiftRight, tag := 16#6,
      shape := .xy, mask := 0xF00F#16, value := 0x8006#16, excepted := [],
      fallback := false, encoding := "1000xxxxyyyy0110",
      fields := [⟨.x, 11, 8⟩, ⟨.y, 7, 4⟩], uses := 3#5, count := 256, rule := "R101",
      src := "the source §4.1" },
    { mnemonic := "SubReverse", family := .subReverse, tag := 17#6,
      shape := .xy, mask := 0xF00F#16, value := 0x8007#16, excepted := [],
      fallback := false, encoding := "1000xxxxyyyy0111",
      fields := [⟨.x, 11, 8⟩, ⟨.y, 7, 4⟩], uses := 3#5, count := 256, rule := "R102",
      src := "the source §4.1" },
    { mnemonic := "ShiftLeft", family := .shiftLeft, tag := 18#6,
      shape := .xy, mask := 0xF00F#16, value := 0x800E#16, excepted := [],
      fallback := false, encoding := "1000xxxxyyyy1110",
      fields := [⟨.x, 11, 8⟩, ⟨.y, 7, 4⟩], uses := 3#5, count := 256, rule := "R103",
      src := "the source §4.1" },
    { mnemonic := "SkipNotEqualRegister", family := .skipNotEqualRegister, tag := 19#6,
      shape := .xy, mask := 0xF00F#16, value := 0x9000#16, excepted := [],
      fallback := false, encoding := "1001xxxxyyyy0000",
      fields := [⟨.x, 11, 8⟩, ⟨.y, 7, 4⟩], uses := 3#5, count := 256, rule := "R94",
      src := "the source §4.1" } ]

/-- Rows with top nibble A to E (R50). -/
def rowsHigh : List OpcodeRow :=
  [ { mnemonic := "SetIndex", family := .setIndex, tag := 20#6,
      shape := .nnn, mask := 0xF000#16, value := 0xA000#16, excepted := [],
      fallback := false, encoding := "1010nnnnnnnnnnnn",
      fields := [⟨.nnn, 11, 0⟩], uses := 16#5, count := 4096, rule := "R89",
      src := "the source §4.1" },
    { mnemonic := "JumpAddOffset", family := .jumpAddOffset, tag := 21#6,
      shape := .nnn, mask := 0xF000#16, value := 0xB000#16, excepted := [],
      fallback := false, encoding := "1011nnnnnnnnnnnn",
      fields := [⟨.nnn, 11, 0⟩], uses := 16#5, count := 4096, rule := "R90",
      src := "the source §4.1" },
    { mnemonic := "Random", family := .random, tag := 22#6,
      shape := .xnn, mask := 0xF000#16, value := 0xC000#16, excepted := [],
      fallback := false, encoding := "1100xxxxnnnnnnnn",
      fields := [⟨.x, 11, 8⟩, ⟨.nn, 7, 0⟩], uses := 9#5, count := 4096, rule := "R91",
      src := "the source §4.1" },
    { mnemonic := "Draw", family := .draw, tag := 23#6,
      shape := .xyn, mask := 0xF000#16, value := 0xD000#16, excepted := [],
      fallback := false, encoding := "1101xxxxyyyynnnn",
      fields := [⟨.x, 11, 8⟩, ⟨.y, 7, 4⟩, ⟨.n, 3, 0⟩], uses := 7#5, count := 4096, rule := "R92",
      src := "the source §4.1" },
    { mnemonic := "SkipIfKeyPressed", family := .skipIfKeyPressed, tag := 24#6,
      shape := .x, mask := 0xF0FF#16, value := 0xE09E#16, excepted := [],
      fallback := false, encoding := "1110xxxx10011110",
      fields := [⟨.x, 11, 8⟩], uses := 1#5, count := 16, rule := "R104",
      src := "the source §4.1" },
    { mnemonic := "SkipIfKeyNotPressed", family := .skipIfKeyNotPressed, tag := 25#6,
      shape := .x, mask := 0xF0FF#16, value := 0xE0A1#16, excepted := [],
      fallback := false, encoding := "1110xxxx10100001",
      fields := [⟨.x, 11, 8⟩], uses := 1#5, count := 16, rule := "R105",
      src := "the source §4.1" } ]

/-- Rows with top nibble F (R50). -/
def rowsF : List OpcodeRow :=
  [ { mnemonic := "GetDelayTimer", family := .getDelayTimer, tag := 26#6,
      shape := .x, mask := 0xF0FF#16, value := 0xF007#16, excepted := [],
      fallback := false, encoding := "1111xxxx00000111",
      fields := [⟨.x, 11, 8⟩], uses := 1#5, count := 16, rule := "R106",
      src := "the source §4.1" },
    { mnemonic := "WaitKey", family := .waitKey, tag := 27#6,
      shape := .x, mask := 0xF0FF#16, value := 0xF00A#16, excepted := [],
      fallback := false, encoding := "1111xxxx00001010",
      fields := [⟨.x, 11, 8⟩], uses := 1#5, count := 16, rule := "R107",
      src := "the source §4.1" },
    { mnemonic := "SetDelayTimer", family := .setDelayTimer, tag := 28#6,
      shape := .x, mask := 0xF0FF#16, value := 0xF015#16, excepted := [],
      fallback := false, encoding := "1111xxxx00010101",
      fields := [⟨.x, 11, 8⟩], uses := 1#5, count := 16, rule := "R108",
      src := "the source §4.1" },
    { mnemonic := "SetSoundTimer", family := .setSoundTimer, tag := 29#6,
      shape := .x, mask := 0xF0FF#16, value := 0xF018#16, excepted := [],
      fallback := false, encoding := "1111xxxx00011000",
      fields := [⟨.x, 11, 8⟩], uses := 1#5, count := 16, rule := "R109",
      src := "the source §4.1" },
    { mnemonic := "AddIndex", family := .addIndex, tag := 30#6,
      shape := .x, mask := 0xF0FF#16, value := 0xF01E#16, excepted := [],
      fallback := false, encoding := "1111xxxx00011110",
      fields := [⟨.x, 11, 8⟩], uses := 1#5, count := 16, rule := "R110",
      src := "the source §4.1" },
    { mnemonic := "SetIndexToSpriteAddr", family := .setIndexToSpriteAddr, tag := 31#6,
      shape := .x, mask := 0xF0FF#16, value := 0xF029#16, excepted := [],
      fallback := false, encoding := "1111xxxx00101001",
      fields := [⟨.x, 11, 8⟩], uses := 1#5, count := 16, rule := "R111",
      src := "the source §4.1" },
    { mnemonic := "StoreBCD", family := .storeBCD, tag := 32#6,
      shape := .x, mask := 0xF0FF#16, value := 0xF033#16, excepted := [],
      fallback := false, encoding := "1111xxxx00110011",
      fields := [⟨.x, 11, 8⟩], uses := 1#5, count := 16, rule := "R112",
      src := "the source §4.1" },
    { mnemonic := "DumpRegisters", family := .dumpRegisters, tag := 33#6,
      shape := .x, mask := 0xF0FF#16, value := 0xF055#16, excepted := [],
      fallback := false, encoding := "1111xxxx01010101",
      fields := [⟨.x, 11, 8⟩], uses := 1#5, count := 16, rule := "R113",
      src := "the source §4.1" },
    { mnemonic := "LoadRegisters", family := .loadRegisters, tag := 34#6,
      shape := .x, mask := 0xF0FF#16, value := 0xF065#16, excepted := [],
      fallback := false, encoding := "1111xxxx01100101",
      fields := [⟨.x, 11, 8⟩], uses := 1#5, count := 16, rule := "R114",
      src := "the source §4.1" } ]

/-- The fallback row (R50, R115): taken only when no other row matches. -/
def rowUnknown : OpcodeRow :=
  { mnemonic := "Unknown", family := .unknown, tag := 35#6,
    shape := .unknown, mask := 0x0000#16, value := 0x0000#16, excepted := [],
    fallback := true, encoding := "rrrrrrrrrrrrrrrr",
    fields := [⟨.raw, 15, 0⟩], uses := 0#5, count := 17488, rule := "R115",
    src := "the source §4.1" }

/-- The 35 rows of the defined families, in file order (R50). -/
def definedRows : List OpcodeRow := rowsLow ++ rowsMid ++ rowsHigh ++ rowsF

/-- opcode_table.json: the 36 rows in file order (R54). -/
def opcodeTable : List OpcodeRow := definedRows ++ [rowUnknown]

/-- "An opcode `w` belongs to the row when `(w & mask) == match` and `w` is not in the row's `except` list" (R50). -/
abbrev OpcodeRow.Matches (r : OpcodeRow) (w : Word) : Prop := w &&& r.mask = r.value ∧ w ∉ r.excepted

/-- A row read on its own, by `except` and `fallback` (R54): the row matches, and a `fallback` row "is taken only when no other
row matches". -/
abbrev OpcodeRow.Claims (r : OpcodeRow) (w : Word) : Prop :=
  r.Matches w ∧ (r.fallback = true → ∀ q ∈ opcodeTable, q.fallback = false → ¬ q.Matches w)

/-- "Reading the rows in file order and taking the first match ... without looking at `except`" (R54, R67(c)). -/
def familyByTable (w : Word) : Option Family :=
  (opcodeTable.find? (fun r => w &&& r.mask == r.value)).map OpcodeRow.family

/-- R72: `encode(f, ops) = match_f | place(ops)`, and `encode(Unknown, raw) = raw`. The constants are the `match` column of
R50. -/
def encode (i : Instr) : Word :=
  match i with
  | .clearScreen => 0x00E0#16
  | .ret => 0x00EE#16
  | .callMachineRoutine nnn => 0x0000#16 ||| placeNNN nnn
  | .jump nnn => 0x1000#16 ||| placeNNN nnn
  | .callSubroutine nnn => 0x2000#16 ||| placeNNN nnn
  | .skipEqualImmediate x nn => 0x3000#16 ||| placeX x ||| placeNN nn
  | .skipNotEqualImmediate x nn => 0x4000#16 ||| placeX x ||| placeNN nn
  | .skipEqualRegister x y => 0x5000#16 ||| placeX x ||| placeY y
  | .setImmediate x nn => 0x6000#16 ||| placeX x ||| placeNN nn
  | .addImmediate x nn => 0x7000#16 ||| placeX x ||| placeNN nn
  | .assign x y => 0x8000#16 ||| placeX x ||| placeY y
  | .or x y => 0x8001#16 ||| placeX x ||| placeY y
  | .and x y => 0x8002#16 ||| placeX x ||| placeY y
  | .xor x y => 0x8003#16 ||| placeX x ||| placeY y
  | .addReg x y => 0x8004#16 ||| placeX x ||| placeY y
  | .subReg x y => 0x8005#16 ||| placeX x ||| placeY y
  | .shiftRight x y => 0x8006#16 ||| placeX x ||| placeY y
  | .subReverse x y => 0x8007#16 ||| placeX x ||| placeY y
  | .shiftLeft x y => 0x800E#16 ||| placeX x ||| placeY y
  | .skipNotEqualRegister x y => 0x9000#16 ||| placeX x ||| placeY y
  | .setIndex nnn => 0xA000#16 ||| placeNNN nnn
  | .jumpAddOffset nnn => 0xB000#16 ||| placeNNN nnn
  | .random x nn => 0xC000#16 ||| placeX x ||| placeNN nn
  | .draw x y n => 0xD000#16 ||| placeX x ||| placeY y ||| placeN n
  | .skipIfKeyPressed x => 0xE09E#16 ||| placeX x
  | .skipIfKeyNotPressed x => 0xE0A1#16 ||| placeX x
  | .getDelayTimer x => 0xF007#16 ||| placeX x
  | .waitKey x => 0xF00A#16 ||| placeX x
  | .setDelayTimer x => 0xF015#16 ||| placeX x
  | .setSoundTimer x => 0xF018#16 ||| placeX x
  | .addIndex x => 0xF01E#16 ||| placeX x
  | .setIndexToSpriteAddr x => 0xF029#16 ||| placeX x
  | .storeBCD x => 0xF033#16 ||| placeX x
  | .dumpRegisters x => 0xF055#16 ||| placeX x
  | .loadRegisters x => 0xF065#16 ||| placeX x
  | .unknown raw => raw

/-- The 16-bit word that a number `w` of `nbits` bits is, in the table's own numbering (bit 0 the least significant bit); bits
at and above `nbits` are 0. -/
def tableWord (nbits w : Nat) : Word := BitVec.ofNat 16 (w % 2 ^ nbits)

/-- What the decoder reads from that word laid out as two ROM bytes, the high byte at the lower offset (R30). -/
def decodeTableWord (nbits w : Nat) : Option Instr :=
  match decodeBytes [firstByte (tableWord nbits w), secondByte (tableWord nbits w)] with
  | .ok (i, _) => some i
  | .error _ => none

end Sys2Proof
end

