-- ==== Sys2Proof/Machine/State.lean ====
section
/-! DEFINITION. What stands on the wires of the block and what the driver around it holds. The block itself has no state (R10);
the fields below are its ports (R13) and the driver's (R30, R32, R117), see log entries 1, 5, 6, 7 and 18. -/

namespace Sys2Proof.Machine

/-- Why a step stops with a fault. There is no constructor: "A model's step for this block never returns a fault" (R141); the
value `Unknown` is no fault (R117, R140). Log entry 12. -/
inductive Fault where
deriving DecidableEq, Repr

/-- Why a step is refused. -/
inductive Refusal where
  /-- Raised by an arm of `exec` whose instruction has no meaning yet; no arm of this model raises it. Safe: nothing is claimed
  of a run that stops. -/
  | notModelled (mnemonic : String)
deriving DecidableEq, Repr

/-- The ROM image, a list of (byte offset, byte), offsets strictly rising. An unlisted offset has no value: it lies past the
end of the file (R30, R35; log entry 7). -/
abbrev Memory := List Host.Cell

/-- The ports of `chip8_idec` and the driver that feeds it. -/
structure State where
  /-- The ROM image, the driver's, read-only (R22, R30, R34). -/
  rom     : Memory
  /-- The driver's byte index `i` of the next opcode (R11, R32). -/
  offset  : Nat
  /-- The input port (R13). -/
  opcode  : Word
  /-- The output record, the nine output ports (R13, R14). -/
  out     : DecodedInstruction
  /-- The records the driver has taken, oldest first, one for each opcode it supplied (R117). -/
  records : List DecodedInstruction
deriving DecidableEq, Repr

/-- The state before the driver presents its first opcode. The iteration starts at byte offset 0 (R151); the outputs are
`decode` of the input (R24, R150); the input is held at 0x0000 (log entry 5); no ROM is placed (log entry 6). -/
def State.reset : State :=
  { rom := [], offset := 0, opcode := 0x0000#16, out := decode 0x0000#16, records := [] }

end Sys2Proof.Machine
end

