-- ==== Sys2Proof/Machine/Ops.lean ====
section
/-! DEFINITION. The named operations: the ROM image, forming the next opcode (R30, R32), presenting it, driving the outputs
(R61 to R66), taking the record (R117). There is no operation for taking an exception or returning from one, since the block
has none (R141, R144, R145), and none that writes the ROM on the block's side (R7, R34). -/

namespace Sys2Proof.Machine

/-- The byte at an offset of the ROM image, if the file has one (R30). -/
def Memory.read (m : Memory) (a : Nat) : Option Byte :=
  match m with
  | [] => none
  | (a', b') :: rest => if a = a' then some b' else Memory.read rest a

/-- Placing one byte of the ROM image from outside, keeping offsets strictly rising (log entry 6). -/
def Memory.write (m : Memory) (a : Nat) (b : Byte) : Memory :=
  match m with
  | [] => [(a, b)]
  | (a', b') :: rest =>
    if a < a' then (a, b) :: (a', b') :: rest
    else if a = a' then (a, b) :: rest
    else (a', b') :: Memory.write rest a b

/-- The canonical form: offsets strictly rising. -/
abbrev Memory.wf (m : Memory) : Prop := m.Pairwise (fun c d => c.1 < d.1)

/-- Consecutive bytes from an offset on. -/
def cellsFrom (a : Nat) (bytes : List Byte) : Memory :=
  match bytes with
  | [] => []
  | b :: rest => (a, b) :: cellsFrom (a + 1) rest

/-- The image of a file: its bytes at offsets 0, 1, 2, ... (R30, R35). -/
def romImage (bytes : List Byte) : Memory := cellsFrom 0 bytes

/-- The bytes of an image in order. -/
def romBytes (m : Memory) : List Byte := m.map Prod.snd

/-- A ROM placed from outside, before the driver's first turn (log entry 6). -/
def loadRom (bytes : List Byte) (s : State) : State :=
  { s with rom := romImage bytes, offset := 0, records := [] }

/-- The opcode the driver forms next: the bytes at its offset and the one after it, big-endian; none when fewer than two are
left (R30, R32, R33). -/
def nextOpcode (s : State) : Option Word :=
  match Memory.read s.rom s.offset, Memory.read s.rom (s.offset + 1) with
  | some first, some second => some (assemble first second)
  | _, _ => none

/-- The driver puts an opcode on the input port and moves on by two bytes (R32). -/
def present (w : Word) (s : State) : State := { s with opcode := w, offset := s.offset + 2 }

/-- The output record when the word `w` is on the input and the multiplexers give family `f`: the operand ports are wires from
`w` (R18, R61), `raw` is `w` (R14). -/
def record (f : Family) (w : Word) (uses : UsesMask) (unknown : Bool) : DecodedInstruction :=
  { family := f, x := xOf w, y := yOf w, n := nOf w, nn := nnOf w, nnn := nnnOf w, raw := w, uses := uses, unknown := unknown }

/-- The output ports take a record. Nothing else changes: no state, no pc, no memory (R10, R74). -/
def drive (d : DecodedInstruction) (s : State) : State := { s with out := d }

/-- The driver takes the one record the block gives for the opcode it supplied (R117). -/
def takeRecord (o : Host.Outcome State Fault Refusal) : Host.Outcome State Fault Refusal :=
  match o with
  | .next t => .next { t with records := t.records ++ [t.out] }
  | .fault r => .fault r
  | .refused r => .refused r

/-- No whole opcode is left: the run is over (R158), the decoder is not called (R33), and nothing changes (log entry 4). -/
def endOfRun (s : State) : Host.Outcome State Fault Refusal := .next s

/-- A word placed in the ROM where the driver reads next, high byte first (R30). -/
def placeNextOpcode (w : Word) (s : State) : State :=
  { s with rom := Memory.write (Memory.write s.rom s.offset (firstByte w)) (s.offset + 1) (secondByte w) }

end Sys2Proof.Machine
end

