-- ==== Sys2Proof/Machine/Alu8xy.lean ====
section
/-! DEFINITION. Top nibble 0x8 (44_alu_8xy.md). What an instruction computes is the output record (R74, R75): with
its word on the input, the output ports take the family, the slices of the word, `raw`, `uses` and `unknown` that its rule
gives. No flag is written, no exception is possible, nothing else changes. -/

namespace Sys2Proof.Machine

/-- R95: `family <- Assign`, `x <- opcode[11:8]`, `y <- opcode[7:4]`, `uses <- 3`, `unknown <- 0`. -/
def execAssign (x : Nibble) (y : Nibble) (s : State) : Host.Outcome State Fault Refusal :=
  .next (drive (record .assign (0x8#4 ++ x ++ y ++ 0x0#4) 3#5 false) s)

/-- R96: `family <- Or`, `x <- opcode[11:8]`, `y <- opcode[7:4]`, `uses <- 3`, `unknown <- 0`. -/
def execOr (x : Nibble) (y : Nibble) (s : State) : Host.Outcome State Fault Refusal :=
  .next (drive (record .or (0x8#4 ++ x ++ y ++ 0x1#4) 3#5 false) s)

/-- R97: `family <- And`, `x <- opcode[11:8]`, `y <- opcode[7:4]`, `uses <- 3`, `unknown <- 0`. -/
def execAnd (x : Nibble) (y : Nibble) (s : State) : Host.Outcome State Fault Refusal :=
  .next (drive (record .and (0x8#4 ++ x ++ y ++ 0x2#4) 3#5 false) s)

/-- R98: `family <- Xor`, `x <- opcode[11:8]`, `y <- opcode[7:4]`, `uses <- 3`, `unknown <- 0`. -/
def execXor (x : Nibble) (y : Nibble) (s : State) : Host.Outcome State Fault Refusal :=
  .next (drive (record .xor (0x8#4 ++ x ++ y ++ 0x3#4) 3#5 false) s)

/-- R99: `family <- AddReg`, `x <- opcode[11:8]`, `y <- opcode[7:4]`, `uses <- 3`, `unknown <- 0`. -/
def execAddReg (x : Nibble) (y : Nibble) (s : State) : Host.Outcome State Fault Refusal :=
  .next (drive (record .addReg (0x8#4 ++ x ++ y ++ 0x4#4) 3#5 false) s)

/-- R100: `family <- SubReg`, `x <- opcode[11:8]`, `y <- opcode[7:4]`, `uses <- 3`, `unknown <- 0`. -/
def execSubReg (x : Nibble) (y : Nibble) (s : State) : Host.Outcome State Fault Refusal :=
  .next (drive (record .subReg (0x8#4 ++ x ++ y ++ 0x5#4) 3#5 false) s)

/-- R101: `family <- ShiftRight`, `x <- opcode[11:8]`, `y <- opcode[7:4]`, `uses <- 3`, `unknown <- 0`. -/
def execShiftRight (x : Nibble) (y : Nibble) (s : State) : Host.Outcome State Fault Refusal :=
  .next (drive (record .shiftRight (0x8#4 ++ x ++ y ++ 0x6#4) 3#5 false) s)

/-- R102: `family <- SubReverse`, `x <- opcode[11:8]`, `y <- opcode[7:4]`, `uses <- 3`, `unknown <- 0`. -/
def execSubReverse (x : Nibble) (y : Nibble) (s : State) : Host.Outcome State Fault Refusal :=
  .next (drive (record .subReverse (0x8#4 ++ x ++ y ++ 0x7#4) 3#5 false) s)

/-- R103: `family <- ShiftLeft`, `x <- opcode[11:8]`, `y <- opcode[7:4]`, `uses <- 3`, `unknown <- 0`. -/
def execShiftLeft (x : Nibble) (y : Nibble) (s : State) : Host.Outcome State Fault Refusal :=
  .next (drive (record .shiftLeft (0x8#4 ++ x ++ y ++ 0xE#4) 3#5 false) s)

end Sys2Proof.Machine
end

