-- ==== Sys2Proof/Machine/KeyEx.lean ====
section
/-! DEFINITION. Top nibble 0xE (45_key_ex.md). What an instruction computes is the output record (R74, R75): with
its word on the input, the output ports take the family, the slices of the word, `raw`, `uses` and `unknown` that its rule
gives. No flag is written, no exception is possible, nothing else changes. -/

namespace Sys2Proof.Machine

/-- R104: `family <- SkipIfKeyPressed`, `x <- opcode[11:8]`, `uses <- 1`, `unknown <- 0`. -/
def execSkipIfKeyPressed (x : Nibble) (s : State) : Host.Outcome State Fault Refusal :=
  .next (drive (record .skipIfKeyPressed (0xE#4 ++ x ++ 0x9E#8) 1#5 false) s)

/-- R105: `family <- SkipIfKeyNotPressed`, `x <- opcode[11:8]`, `uses <- 1`, `unknown <- 0`. -/
def execSkipIfKeyNotPressed (x : Nibble) (s : State) : Host.Outcome State Fault Refusal :=
  .next (drive (record .skipIfKeyNotPressed (0xE#4 ++ x ++ 0xA1#8) 1#5 false) s)

end Sys2Proof.Machine
end

