-- ==== Sys2Proof/Machine/MiscFx.lean ====
section
/-! DEFINITION. Top nibble 0xF (46_misc_fx.md). What an instruction computes is the output record (R74, R75): with
its word on the input, the output ports take the family, the slices of the word, `raw`, `uses` and `unknown` that its rule
gives. No flag is written, no exception is possible, nothing else changes. -/

namespace Sys2Proof.Machine

/-- R106: `family <- GetDelayTimer`, `x <- opcode[11:8]`, `uses <- 1`, `unknown <- 0`. -/
def execGetDelayTimer (x : Nibble) (s : State) : Host.Outcome State Fault Refusal :=
  .next (drive (record .getDelayTimer (0xF#4 ++ x ++ 0x07#8) 1#5 false) s)

/-- R107: `family <- WaitKey`, `x <- opcode[11:8]`, `uses <- 1`, `unknown <- 0`. -/
def execWaitKey (x : Nibble) (s : State) : Host.Outcome State Fault Refusal :=
  .next (drive (record .waitKey (0xF#4 ++ x ++ 0x0A#8) 1#5 false) s)

/-- R108: `family <- SetDelayTimer`, `x <- opcode[11:8]`, `uses <- 1`, `unknown <- 0`. -/
def execSetDelayTimer (x : Nibble) (s : State) : Host.Outcome State Fault Refusal :=
  .next (drive (record .setDelayTimer (0xF#4 ++ x ++ 0x15#8) 1#5 false) s)

/-- R109: `family <- SetSoundTimer`, `x <- opcode[11:8]`, `uses <- 1`, `unknown <- 0`. -/
def execSetSoundTimer (x : Nibble) (s : State) : Host.Outcome State Fault Refusal :=
  .next (drive (record .setSoundTimer (0xF#4 ++ x ++ 0x18#8) 1#5 false) s)

/-- R110: `family <- AddIndex`, `x <- opcode[11:8]`, `uses <- 1`, `unknown <- 0`. -/
def execAddIndex (x : Nibble) (s : State) : Host.Outcome State Fault Refusal :=
  .next (drive (record .addIndex (0xF#4 ++ x ++ 0x1E#8) 1#5 false) s)

/-- R111: `family <- SetIndexToSpriteAddr`, `x <- opcode[11:8]`, `uses <- 1`, `unknown <- 0`. -/
def execSetIndexToSpriteAddr (x : Nibble) (s : State) : Host.Outcome State Fault Refusal :=
  .next (drive (record .setIndexToSpriteAddr (0xF#4 ++ x ++ 0x29#8) 1#5 false) s)

/-- R112: `family <- StoreBCD`, `x <- opcode[11:8]`, `uses <- 1`, `unknown <- 0`. -/
def execStoreBCD (x : Nibble) (s : State) : Host.Outcome State Fault Refusal :=
  .next (drive (record .storeBCD (0xF#4 ++ x ++ 0x33#8) 1#5 false) s)

/-- R113: `family <- DumpRegisters`, `x <- opcode[11:8]`, `uses <- 1`, `unknown <- 0`. -/
def execDumpRegisters (x : Nibble) (s : State) : Host.Outcome State Fault Refusal :=
  .next (drive (record .dumpRegisters (0xF#4 ++ x ++ 0x55#8) 1#5 false) s)

/-- R114: `family <- LoadRegisters`, `x <- opcode[11:8]`, `uses <- 1`, `unknown <- 0`. -/
def execLoadRegisters (x : Nibble) (s : State) : Host.Outcome State Fault Refusal :=
  .next (drive (record .loadRegisters (0xF#4 ++ x ++ 0x65#8) 1#5 false) s)

end Sys2Proof.Machine
end

