-- ==== Sys2Proof/Machine/RegisterCompare.lean ====
section
/-! DEFINITION. Top nibbles 0x5 and 0x9 (43_register_compare.md). What an instruction computes is the output record (R74, R75): with
its word on the input, the output ports take the family, the slices of the word, `raw`, `uses` and `unknown` that its rule
gives. No flag is written, no exception is possible, nothing else changes. -/

namespace Sys2Proof.Machine

/-- R93: `family <- SkipEqualRegister`, `x <- opcode[11:8]`, `y <- opcode[7:4]`, `uses <- 3`, `unknown <- 0`. -/
def execSkipEqualRegister (x : Nibble) (y : Nibble) (s : State) : Host.Outcome State Fault Refusal :=
  .next (drive (record .skipEqualRegister (0x5#4 ++ x ++ y ++ 0x0#4) 3#5 false) s)

/-- R94: `family <- SkipNotEqualRegister`, `x <- opcode[11:8]`, `y <- opcode[7:4]`, `uses <- 3`, `unknown <- 0`. -/
def execSkipNotEqualRegister (x : Nibble) (y : Nibble) (s : State) : Host.Outcome State Fault Refusal :=
  .next (drive (record .skipNotEqualRegister (0x9#4 ++ x ++ y ++ 0x0#4) 3#5 false) s)

end Sys2Proof.Machine
end

