-- ==== Sys2Proof/Machine/SingleFamily.lean ====
section
/-! DEFINITION. The ten top nibbles with a single family (42_single_family_nibbles.md). What an instruction computes is the output record (R74, R75): with
its word on the input, the output ports take the family, the slices of the word, `raw`, `uses` and `unknown` that its rule
gives. No flag is written, no exception is possible, nothing else changes. -/

namespace Sys2Proof.Machine

/-- R83: `family <- Jump`, `nnn <- opcode[11:0]`, `uses <- 16`, `unknown <- 0`. -/
def execJump (nnn : Addr) (s : State) : Host.Outcome State Fault Refusal :=
  .next (drive (record .jump (0x1#4 ++ nnn) 16#5 false) s)

/-- R84: `family <- CallSubroutine`, `nnn <- opcode[11:0]`, `uses <- 16`, `unknown <- 0`. -/
def execCallSubroutine (nnn : Addr) (s : State) : Host.Outcome State Fault Refusal :=
  .next (drive (record .callSubroutine (0x2#4 ++ nnn) 16#5 false) s)

/-- R85: `family <- SkipEqualImmediate`, `x <- opcode[11:8]`, `nn <- opcode[7:0]`, `uses <- 9`, `unknown <- 0`. -/
def execSkipEqualImmediate (x : Nibble) (nn : Byte) (s : State) : Host.Outcome State Fault Refusal :=
  .next (drive (record .skipEqualImmediate (0x3#4 ++ x ++ nn) 9#5 false) s)

/-- R86: `family <- SkipNotEqualImmediate`, `x <- opcode[11:8]`, `nn <- opcode[7:0]`, `uses <- 9`, `unknown <- 0`. -/
def execSkipNotEqualImmediate (x : Nibble) (nn : Byte) (s : State) : Host.Outcome State Fault Refusal :=
  .next (drive (record .skipNotEqualImmediate (0x4#4 ++ x ++ nn) 9#5 false) s)

/-- R87: `family <- SetImmediate`, `x <- opcode[11:8]`, `nn <- opcode[7:0]`, `uses <- 9`, `unknown <- 0`. -/
def execSetImmediate (x : Nibble) (nn : Byte) (s : State) : Host.Outcome State Fault Refusal :=
  .next (drive (record .setImmediate (0x6#4 ++ x ++ nn) 9#5 false) s)

/-- R88: `family <- AddImmediate`, `x <- opcode[11:8]`, `nn <- opcode[7:0]`, `uses <- 9`, `unknown <- 0`. -/
def execAddImmediate (x : Nibble) (nn : Byte) (s : State) : Host.Outcome State Fault Refusal :=
  .next (drive (record .addImmediate (0x7#4 ++ x ++ nn) 9#5 false) s)

/-- R89: `family <- SetIndex`, `nnn <- opcode[11:0]`, `uses <- 16`, `unknown <- 0`. -/
def execSetIndex (nnn : Addr) (s : State) : Host.Outcome State Fault Refusal :=
  .next (drive (record .setIndex (0xA#4 ++ nnn) 16#5 false) s)

/-- R90: `family <- JumpAddOffset`, `nnn <- opcode[11:0]`, `uses <- 16`, `unknown <- 0`. -/
def execJumpAddOffset (nnn : Addr) (s : State) : Host.Outcome State Fault Refusal :=
  .next (drive (record .jumpAddOffset (0xB#4 ++ nnn) 16#5 false) s)

/-- R91: `family <- Random`, `x <- opcode[11:8]`, `nn <- opcode[7:0]`, `uses <- 9`, `unknown <- 0`. -/
def execRandom (x : Nibble) (nn : Byte) (s : State) : Host.Outcome State Fault Refusal :=
  .next (drive (record .random (0xC#4 ++ x ++ nn) 9#5 false) s)

/-- R92: `family <- Draw`, `x <- opcode[11:8]`, `y <- opcode[7:4]`, `n <- opcode[3:0]`, `uses <- 7`, `unknown <- 0`. -/
def execDraw (x : Nibble) (y : Nibble) (n : Nibble) (s : State) : Host.Outcome State Fault Refusal :=
  .next (drive (record .draw (0xD#4 ++ x ++ y ++ n) 7#5 false) s)

end Sys2Proof.Machine
end

