-- ==== Sys2Proof/Machine/Top0.lean ====
section
/-! DEFINITION. Top nibble 0x0: ClearScreen, Return, CallMachineRoutine (41_top0_system.md). What an instruction computes is the output record (R74, R75): with
its word on the input, the output ports take the family, the slices of the word, `raw`, `uses` and `unknown` that its rule
gives. No flag is written, no exception is possible, nothing else changes. -/

namespace Sys2Proof.Machine

/-- R80: `family <- ClearScreen`, no operand, `uses <- 0`, `unknown <- 0`. -/
def execClearScreen (s : State) : Host.Outcome State Fault Refusal :=
  .next (drive (record .clearScreen 0x00E0#16 0#5 false) s)

/-- R81: `family <- Return`, no operand, `uses <- 0`, `unknown <- 0`. -/
def execReturn (s : State) : Host.Outcome State Fault Refusal :=
  .next (drive (record .ret 0x00EE#16 0#5 false) s)

/-- R82: `family <- CallMachineRoutine`, `nnn <- opcode[11:0]`, `uses <- 16`, `unknown <- 0`. -/
def execCallMachineRoutine (nnn : Addr) (s : State) : Host.Outcome State Fault Refusal :=
  .next (drive (record .callMachineRoutine (0x0#4 ++ nnn) 16#5 false) s)

end Sys2Proof.Machine
end

