-- ==== Sys2Proof/Machine/UnknownFamily.lean ====
section
/-! DEFINITION. The Unknown family (47_unknown.md). What an instruction computes is the output record (R74, R75): with
its word on the input, the output ports take the family, the slices of the word, `raw`, `uses` and `unknown` that its rule
gives. No flag is written, no exception is possible, nothing else changes. -/

namespace Sys2Proof.Machine

/-- R115: `family <- Unknown`, `raw <- opcode` is its whole content, `uses <- 0`, `unknown <- 1`. -/
def execUnknown (raw : Word) (s : State) : Host.Outcome State Fault Refusal :=
  .next (drive (record .unknown raw 0#5 true) s)

end Sys2Proof.Machine
end

