-- ==== Sys2Proof/Machine/Dispatch.lean ====
section
/-! DEFINITION. One arm for each constructor of Instr: the instruction is on the input, its meaning drives the outputs. -/

namespace Sys2Proof.Machine

def exec (i : Instr) (s : State) : Host.Outcome State Fault Refusal :=
  match i with
  | .clearScreen => Sys2Proof.Machine.execClearScreen s
  | .ret => Sys2Proof.Machine.execReturn s
  | .callMachineRoutine nnn => Sys2Proof.Machine.execCallMachineRoutine nnn s
  | .jump nnn => Sys2Proof.Machine.execJump nnn s
  | .callSubroutine nnn => Sys2Proof.Machine.execCallSubroutine nnn s
  | .skipEqualImmediate x nn => Sys2Proof.Machine.execSkipEqualImmediate x nn s
  | .skipNotEqualImmediate x nn => Sys2Proof.Machine.execSkipNotEqualImmediate x nn s
  | .skipEqualRegister x y => Sys2Proof.Machine.execSkipEqualRegister x y s
  | .setImmediate x nn => Sys2Proof.Machine.execSetImmediate x nn s
  | .addImmediate x nn => Sys2Proof.Machine.execAddImmediate x nn s
  | .assign x y => Sys2Proof.Machine.execAssign x y s
  | .or x y => Sys2Proof.Machine.execOr x y s
  | .and x y => Sys2Proof.Machine.execAnd x y s
  | .xor x y => Sys2Proof.Machine.execXor x y s
  | .addReg x y => Sys2Proof.Machine.execAddReg x y s
  | .subReg x y => Sys2Proof.Machine.execSubReg x y s
  | .shiftRight x y => Sys2Proof.Machine.execShiftRight x y s
  | .subReverse x y => Sys2Proof.Machine.execSubReverse x y s
  | .shiftLeft x y => Sys2Proof.Machine.execShiftLeft x y s
  | .skipNotEqualRegister x y => Sys2Proof.Machine.execSkipNotEqualRegister x y s
  | .setIndex nnn => Sys2Proof.Machine.execSetIndex nnn s
  | .jumpAddOffset nnn => Sys2Proof.Machine.execJumpAddOffset nnn s
  | .random x nn => Sys2Proof.Machine.execRandom x nn s
  | .draw x y n => Sys2Proof.Machine.execDraw x y n s
  | .skipIfKeyPressed x => Sys2Proof.Machine.execSkipIfKeyPressed x s
  | .skipIfKeyNotPressed x => Sys2Proof.Machine.execSkipIfKeyNotPressed x s
  | .getDelayTimer x => Sys2Proof.Machine.execGetDelayTimer x s
  | .waitKey x => Sys2Proof.Machine.execWaitKey x s
  | .setDelayTimer x => Sys2Proof.Machine.execSetDelayTimer x s
  | .setSoundTimer x => Sys2Proof.Machine.execSetSoundTimer x s
  | .addIndex x => Sys2Proof.Machine.execAddIndex x s
  | .setIndexToSpriteAddr x => Sys2Proof.Machine.execSetIndexToSpriteAddr x s
  | .storeBCD x => Sys2Proof.Machine.execStoreBCD x s
  | .dumpRegisters x => Sys2Proof.Machine.execDumpRegisters x s
  | .loadRegisters x => Sys2Proof.Machine.execLoadRegisters x s
  | .unknown raw => Sys2Proof.Machine.execUnknown raw s

end Sys2Proof.Machine
end

