-- ==== Sys2Proof/Machine/Step.lean ====
section
/-! DEFINITION. One turn of the driver (log entry 2): form the next opcode, present it, let the block follow its input, take
the record. When no whole opcode is left the run is over (R158). -/

namespace Sys2Proof.Machine

/-- The block follows its input: the outputs take what the opcode on the input port decodes to (R10, R152). -/
def settle (s : State) : Host.Outcome State Fault Refusal := exec (decodeInstr s.opcode) s

/-- One step. -/
def step (s : State) : Host.Outcome State Fault Refusal :=
  match nextOpcode s with
  | some w => takeRecord (settle (present w s))
  | none => endOfRun s

/-- `s` with a word of the opcode table placed in the ROM where the driver reads next (log entry 6). -/
def State.withFetchWord (s : State) (nbits w : Nat) : State := placeNextOpcode (tableWord nbits w) s

end Sys2Proof.Machine
end

