-- ==== Sys2Proof/Config.lean ====
section
/-! DEFINITION. The three named parameters the spec leaves OPEN (R5, 92_eei_decisions.md D8, D13, D14). The function
itself has no parameter (R5). Each is a constant without a body: no proof can see a value (log entry 14). -/

namespace Sys2Proof

/-- `ROM_BASE` (D8, R35): where a ROM sits in the memory of some CPU. No rule depends on it; the block never sees an
address. -/
opaque Config.romBase : Nat

/-- `T_PD` (R5, D14, R152): the propagation delay from input to output, "OPEN, a non-negative real", in a unit the spec does
not give. No rule depends on it; the model has no time. -/
opaque Config.tPd : NNReal

/-- `COLOUR` (D13, R129): what a terminal front-end writes before and after the line of an `Unknown`, outside the string. -/
opaque Config.colour : String × String

end Sys2Proof
end

