-- ==== Sys2Proof/Machine/Render.lean ====
section
/-! DEFINITION. The Mnemonic Renderer and the disassembly line (R120 to R130): number formats, templates, the `Unknown` marker,
the line. The text says nothing about execution (R132). Number format, templates, marker and separator are the spec's own
decisions D9 to D12 (log entry 11). -/

namespace Sys2Proof.Machine

/-- The ASCII digit of a number below 10. -/
def decChar (d : Nat) : Char := Char.ofNat (48 + d)

/-- The decimal digits of `v`, most significant first; `fuel` above `v` is enough. -/
def decDigits (fuel v : Nat) : List Char :=
  match fuel with
  | 0 => []
  | k + 1 => if v < 10 then [decChar v] else decDigits k (v / 10) ++ [decChar (v % 10)]

/-- `dec(v)`: "the unsigned decimal numeral of `v`, ASCII digits, no sign, no leading zero, `0` for zero" (R7, R122). -/
def dec (v : Nat) : String := String.ofList (decDigits (v + 1) v)

/-- The lowercase hexadecimal digit of a nibble (R7). -/
def hexChar (d : Nibble) : Char := if d.toNat < 10 then Char.ofNat (48 + d.toNat) else Char.ofNat (87 + d.toNat)

/-- `hex4(v)`: "exactly four lowercase hexadecimal digits of the 16-bit `v`, zero-padded on the left" (R7). -/
def hex4 (w : Word) : String :=
  String.ofList [hexChar (topOf w), hexChar (xOf w), hexChar (yOf w), hexChar (nOf w)]

/-- The name of the register that a 4-bit index selects: `V0` to `V15` (R124). A name only: the block has no registers (R12). -/
def regName (i : Nibble) : String := "V" ++ dec i.toNat

/-- `render : DecodedInstruction -> string`: the templates of R123 and the marker of R125. Total on every record, also on one
that no `decode` gives (R121, decision D22). -/
def render (d : DecodedInstruction) : String :=
  match d.family with
  | .clearScreen => "clear"
  | .ret => "return"
  | .callMachineRoutine => "sys " ++ dec d.nnn.toNat
  | .jump => "jump " ++ dec d.nnn.toNat
  | .callSubroutine => "call " ++ dec d.nnn.toNat
  | .skipEqualImmediate => "skip if " ++ regName d.x ++ " == " ++ dec d.nn.toNat
  | .skipNotEqualImmediate => "skip if " ++ regName d.x ++ " != " ++ dec d.nn.toNat
  | .skipEqualRegister => "skip if " ++ regName d.x ++ " == " ++ regName d.y
  | .setImmediate => regName d.x ++ " = " ++ dec d.nn.toNat
  | .addImmediate => regName d.x ++ " += " ++ dec d.nn.toNat
  | .assign => regName d.x ++ " = " ++ regName d.y
  | .or => regName d.x ++ " |= " ++ regName d.y
  | .and => regName d.x ++ " &= " ++ regName d.y
  | .xor => regName d.x ++ " ^= " ++ regName d.y
  | .addReg => regName d.x ++ " += " ++ regName d.y
  | .subReg => regName d.x ++ " -= " ++ regName d.y
  | .shiftRight => regName d.x ++ " = " ++ regName d.y ++ " >> 1"
  | .subReverse => regName d.x ++ " = " ++ regName d.y ++ " - " ++ regName d.x
  | .shiftLeft => regName d.x ++ " = " ++ regName d.y ++ " << 1"
  | .skipNotEqualRegister => "skip if " ++ regName d.x ++ " != " ++ regName d.y
  | .setIndex => "I = " ++ dec d.nnn.toNat
  | .jumpAddOffset => "jump V0 + " ++ dec d.nnn.toNat
  | .random => regName d.x ++ " = rand & " ++ dec d.nn.toNat
  | .draw => "draw " ++ regName d.x ++ ", " ++ regName d.y ++ ", " ++ dec d.n.toNat
  | .skipIfKeyPressed => "skip if key " ++ regName d.x
  | .skipIfKeyNotPressed => "skip if not key " ++ regName d.x
  | .getDelayTimer => regName d.x ++ " = delay"
  | .waitKey => regName d.x ++ " = key"
  | .setDelayTimer => "delay = " ++ regName d.x
  | .setSoundTimer => "sound = " ++ regName d.x
  | .addIndex => "I += " ++ regName d.x
  | .setIndexToSpriteAddr => "I = sprite " ++ regName d.x
  | .storeBCD => "bcd " ++ regName d.x
  | .dumpRegisters => "dump V0.." ++ regName d.x
  | .loadRegisters => "load V0.." ++ regName d.x
  | .unknown => "UNKNOWN 0x" ++ hex4 d.raw

/-- The disassembly line of a record the block gave: its opcode is its `raw` (R14, R128). -/
def lineOf (d : DecodedInstruction) : String := hex4 d.raw ++ ": " ++ render d

/-- `line(w) = hex4(w) ++ ": " ++ render(decode(w))` (R128). -/
def line (w : Word) : String := hex4 w ++ ": " ++ render (decode w)

/-- What a terminal front-end may show: the line, and for an `Unknown` the open decoration `COLOUR` around it (R129). -/
def terminalLine (d : DecodedInstruction) : String :=
  match d.family with
  | .unknown => Config.colour.1 ++ lineOf d ++ Config.colour.2
  | _ => lineOf d

end Sys2Proof.Machine
end

