-- ==== Sys2Proof/Machine/Driver.lean ====
section
/-! DEFINITION. The driver's run as a function of the ROM bytes (R32, R33, R158), and the listing of what it has taken so far.
The byte pairs are decision D7 (log entry 3). -/

namespace Sys2Proof.Machine

/-- The opcodes of a ROM: `op_k` from the bytes at offsets `2k` and `2k+1`; a trailing byte forms none (R32, R33). -/
def opcodesOf (bytes : List Byte) : List Word :=
  match bytes with
  | first :: second :: rest => assemble first second :: opcodesOf rest
  | [_] => []
  | [] => []

/-- A disassembly run: one line for each whole opcode, in ROM order (R128, R158). -/
def disassembly (bytes : List Byte) : List String := (opcodesOf bytes).map line

/-- The lines of the records taken so far, in the order they were taken (R128). -/
def listing (s : State) : List String := s.records.map lineOf

/-- The run is over: no whole opcode is left (R158). -/
def finished (s : State) : Bool := (nextOpcode s).isNone

end Sys2Proof.Machine
end

