-- ==== Sys2Proof/Safety.lean ====
section
/-! DEFINITION. The terms claims are stated in: a run goes on, the wires and the driver's books agree with the ROM, and what a
rule of 41_ to 47_ says of one instruction. -/

namespace Sys2Proof.Machine

/-- The machine goes on from here: no fault and no refusal. Every state is meant to be so (R141, R153). -/
def State.GoesOn (s : State) : Prop := ∃ t, step s = .next t

/-- The invariant of a driver feeding one ROM to the block. -/
structure State.Consistent (s : State) : Prop where
  /-- The outputs are `decode` of the present input (R10, R24, R152). -/
  settled : s.out = decode s.opcode
  /-- The ROM is a file image: offsets 0, 1, 2, ... without a gap (R30, R35). -/
  placed  : s.rom = romImage (romBytes s.rom)
  /-- The driver stands at an even offset (R32). -/
  even    : s.offset % 2 = 0
  /-- The driver is not past the end of the file (R32, R33). -/
  inFile  : s.offset ≤ s.rom.length
  /-- The records taken are those of the opcodes passed so far, one for each, in ROM order (R32, R73, R117). -/
  taken   : s.records = ((opcodesOf (romBytes s.rom)).take (s.offset / 2)).map decode

/-- What a per-family rule (template R75) says of the instruction `i` with the word `w`: its encoding, the output record `d`, that
it completes with that record on the outputs and changes nothing else, for every state (no flag, no exception), and its
display string. -/
structure RuleOf (i : Instr) (w : Word) (d : DecodedInstruction) (text : String) : Prop where
  encodes   : encode i = w
  decodes   : decodeInstr w = i
  records   : decode w = d
  completes : ∀ s : State, exec i s = .next { s with out := d }
  renders   : render d = text

/-- The output record of a word `t ++ nnn` of shape NNN: the used operand, the slices that the other operand ports carry (R18),
`raw`, `uses = 16`, `unknown = 0` (R43, R66). -/
def nnnRecord (f : Family) (t : Nibble) (nnn : Addr) : DecodedInstruction :=
  { family := f, x := nnn.extractLsb' 8 4, y := nnn.extractLsb' 4 4, n := nnn.extractLsb' 0 4, nn := nnn.extractLsb' 0 8,
    nnn := nnn, raw := t ++ nnn, uses := 0b10000#5, unknown := false }

/-- The output record of a word `t ++ x ++ nn` of shape XNN, `uses = 9`. -/
def xnnRecord (f : Family) (t x : Nibble) (nn : Byte) : DecodedInstruction :=
  { family := f, x := x, y := nn.extractLsb' 4 4, n := nn.extractLsb' 0 4, nn := nn,
    nnn := x ++ nn, raw := t ++ x ++ nn, uses := 0b01001#5, unknown := false }

/-- The output record of a word `t ++ x ++ y ++ n` whose four nibbles are given, with the `uses` of its shape (XY: 3, XYN: 7). -/
def nibblesRecord (f : Family) (t x y n : Nibble) (uses : UsesMask) : DecodedInstruction :=
  { family := f, x := x, y := y, n := n, nn := y ++ n, nnn := x ++ y ++ n, raw := t ++ x ++ y ++ n, uses := uses,
    unknown := false }

/-- The output record of a word `t ++ x ++ nn` of shape X, whose low byte `nn` is a function code, `uses = 1`. -/
def xRecord (f : Family) (t x : Nibble) (nn : Byte) : DecodedInstruction :=
  { family := f, x := x, y := nn.extractLsb' 4 4, n := nn.extractLsb' 0 4, nn := nn,
    nnn := x ++ nn, raw := t ++ x ++ nn, uses := 0b00001#5, unknown := false }

/-- The output record of a word that is `Unknown`: the slices, `raw`, `uses = 0`, `unknown = 1` (R115). -/
def unknownRecord (raw : Word) : DecodedInstruction :=
  { family := .unknown, x := raw.extractLsb' 8 4, y := raw.extractLsb' 4 4, n := raw.extractLsb' 0 4,
    nn := raw.extractLsb' 0 8, nnn := raw.extractLsb' 0 12, raw := raw, uses := 0b00000#5, unknown := true }

end Sys2Proof.Machine
end

