-- ==== Sys2Proof/Certificates/Slice0/Obligations.lean ====
section
/-! DEFINITION. The statements for the provers, from the numbered rules of spec/. A docstring names the rule; where a clause
rests on a decision of the spec's own (D<n>) or on a log entry, it says so. -/

open Sys2Proof Sys2Proof.Machine

/-- R30. The driver assembles, the port carries the finished value with the first byte in bits 15:8. -/
def Obligations.OpcodeAssembledBigEndian : Prop :=
  (∀ a b : Byte, assemble a b = a ++ b ∧ (assemble a b).toNat = 256 * a.toNat + b.toNat ∧
      firstByte (assemble a b) = a ∧ secondByte (assemble a b) = b) ∧
  (∀ (s : State) (a b : Byte), Memory.read s.rom s.offset = some a → Memory.read s.rom (s.offset + 1) = some b →
      nextOpcode s = some (a ++ b) ∧ ∃ t, step s = .next t ∧ t.opcode = a ++ b) ∧
  assemble 0x6A#8 0x3F#8 = 0x6A3F#16 ∧ assemble 0x3F#8 0x6A#8 = 0x3F6A#16

/-- R70, in arithmetic, so that a slice taken from wrong bits would make it false. -/
def Obligations.DecodedFieldsAreSlices : Prop :=
  (∀ w : Word, (decode w).x.toNat = w.toNat / 256 % 16 ∧ (decode w).y.toNat = w.toNat / 16 % 16 ∧
      (decode w).n.toNat = w.toNat % 16 ∧ (decode w).nn.toNat = w.toNat % 256 ∧ (decode w).nnn.toNat = w.toNat % 4096 ∧
      (decode w).raw = w ∧
      (decode w).nn.toNat = 16 * (decode w).y.toNat + (decode w).n.toNat ∧
      (decode w).nnn.toNat = 256 * (decode w).x.toNat + (decode w).nn.toNat ∧
      (decode w).raw.toNat / 4096 = (topOf w).toNat) ∧
  (decode 0x6A3F#16).family = .setImmediate ∧ (decode 0x6A3F#16).x = 0xA#4 ∧ (decode 0x6A3F#16).nn = 0x3F#8

/-- R44, the whole table of the first level. -/
def Obligations.TopNibbleSelectsTheBranch : Prop :=
  ∀ w : Word,
    (topOf w = 0x0#4 → (decode w).family ∈ ([.clearScreen, .ret, .callMachineRoutine] : List Family)) ∧
    (topOf w = 0x1#4 → (decode w).family = .jump) ∧
    (topOf w = 0x2#4 → (decode w).family = .callSubroutine) ∧
    (topOf w = 0x3#4 → (decode w).family = .skipEqualImmediate) ∧
    (topOf w = 0x4#4 → (decode w).family = .skipNotEqualImmediate) ∧
    (topOf w = 0x5#4 → (decode w).family ∈ ([.skipEqualRegister, .unknown] : List Family)) ∧
    (topOf w = 0x6#4 → (decode w).family = .setImmediate) ∧
    (topOf w = 0x7#4 → (decode w).family = .addImmediate) ∧
    (topOf w = 0x8#4 → (decode w).family ∈ ([.assign, .or, .and, .xor, .addReg, .subReg, .shiftRight, .subReverse,
      .shiftLeft, .unknown] : List Family)) ∧
    (topOf w = 0x9#4 → (decode w).family ∈ ([.skipNotEqualRegister, .unknown] : List Family)) ∧
    (topOf w = 0xA#4 → (decode w).family = .setIndex) ∧
    (topOf w = 0xB#4 → (decode w).family = .jumpAddOffset) ∧
    (topOf w = 0xC#4 → (decode w).family = .random) ∧
    (topOf w = 0xD#4 → (decode w).family = .draw) ∧
    (topOf w = 0xE#4 → (decode w).family ∈ ([.skipIfKeyPressed, .skipIfKeyNotPressed, .unknown] : List Family)) ∧
    (topOf w = 0xF#4 → (decode w).family ∈ ([.getDelayTimer, .waitKey, .setDelayTimer, .setSoundTimer, .addIndex,
      .setIndexToSpriteAddr, .storeBCD, .dumpRegisters, .loadRegisters, .unknown] : List Family))

/-- R45. -/
def Obligations.TopZeroLooksAtAllTwelveBits : Prop :=
  (∀ w : Word, topOf w = 0x0#4 →
    (nnnOf w = 0x0E0#12 → (decode w).family = .clearScreen) ∧
    (nnnOf w = 0x0EE#12 → (decode w).family = .ret) ∧
    (nnnOf w ≠ 0x0E0#12 → nnnOf w ≠ 0x0EE#12 →
      (decode w).family = .callMachineRoutine ∧ (decode w).nnn.toNat = w.toNat % 4096) ∧
    (decode w).family ≠ .unknown) ∧
  (decode 0x00E0#16).family = .clearScreen ∧ (decode 0x00EE#16).family = .ret ∧
  (decode 0x0000#16).family = .callMachineRoutine

/-- R47: the test is on `n` alone, so the over-wide numeric ranges of the original code are ruled out. -/
def Obligations.CompareNibblesNeedLowNibbleZero : Prop :=
  ∀ w : Word,
    (topOf w = 0x5#4 → (decode w).family = if w.toNat % 16 = 0 then .skipEqualRegister else .unknown) ∧
    (topOf w = 0x9#4 → (decode w).family = if w.toNat % 16 = 0 then .skipNotEqualRegister else .unknown)

/-- R46. The pairing of the nine names with the nine numbers is the spec's own reading D19 (log entry 10). -/
def Obligations.AluLowNibbleSelects : Prop :=
  ∀ w : Word, topOf w = 0x8#4 → (decode w).family =
    ([.assign, .or, .and, .xor, .addReg, .subReg, .shiftRight, .subReverse, .unknown, .unknown, .unknown, .unknown,
      .unknown, .unknown, .shiftLeft, .unknown] : List Family).getD (w.toNat % 16) .unknown

/-- R48, with the slip `0xE0x1` of C1 read as `0xA1`. -/
def Obligations.KeyLowByteSelects : Prop :=
  ∀ w : Word, topOf w = 0xE#4 → (decode w).family =
    if w.toNat % 256 = 0x9E then .skipIfKeyPressed
    else if w.toNat % 256 = 0xA1 then .skipIfKeyNotPressed
    else .unknown

/-- R49. -/
def Obligations.MiscLowByteSelects : Prop :=
  (∀ w : Word, topOf w = 0xF#4 → (decode w).family =
    ((([(0x07, .getDelayTimer), (0x0A, .waitKey), (0x15, .setDelayTimer), (0x18, .setSoundTimer), (0x1E, .addIndex),
      (0x29, .setIndexToSpriteAddr), (0x33, .storeBCD), (0x55, .dumpRegisters), (0x65, .loadRegisters)] :
        List (Nat × Family)).lookup (w.toNat % 256)).getD .unknown)) ∧
  ((List.range 256).filter (fun v => (decode (BitVec.ofNat 16 (0xF000 + v))).family == .unknown)).length = 247

/-- R52, over the mask, match and except columns of the opcode table: the tree and the table are two descriptions, and each family is decoded on its row and nowhere else. -/
def Obligations.RowsPartitionTheOpcodeSpace : Prop :=
  ∀ w : Word,
    (∀ r ∈ definedRows, ∀ q ∈ definedRows, r.Claims w → q.Claims w → r = q) ∧
    (∀ r ∈ definedRows, r.Claims w ↔ (decode w).family = r.family) ∧
    ((decode w).family = .unknown ↔ ∀ r ∈ definedRows, ¬ r.Claims w)

/-- R53: the one overlap and its tie-break. -/
def Obligations.OnlyTheTwoFullWordsOverlap : Prop :=
  (∀ w : Word, ∀ r ∈ definedRows, ∀ q ∈ definedRows, r ≠ q → w &&& r.mask = r.value → w &&& q.mask = q.value →
    (w = 0x00E0#16 ∨ w = 0x00EE#16) ∧
    ((r.family = .callMachineRoutine ∧ (decode w).family = q.family) ∨
     (q.family = .callMachineRoutine ∧ (decode w).family = r.family))) ∧
  (definedRows.filter (fun r => 0x00E0#16 &&& r.mask == r.value)).map OpcodeRow.family =
    [.clearScreen, .callMachineRoutine] ∧
  (definedRows.filter (fun r => 0x00EE#16 &&& r.mask == r.value)).map OpcodeRow.family = [.ret, .callMachineRoutine] ∧
  (decode 0x00E0#16).family = .clearScreen ∧
  (decode 0x00E1#16).family = .callMachineRoutine ∧ (decode 0x00E1#16).nnn = 0x0E1#12

/-- R54 and R67(c): designs of the `family` output that are one function; the `Unknown` row is read by its `fallback`. -/
def Obligations.FirstMatchTableEqualsTree : Prop :=
  ∀ w : Word, familyByTable w = some (familyOf w) ∧ ∀ r ∈ opcodeTable, r.Claims w ↔ familyOf w = r.family

/-- R43, R50, R54, R66: "the fixed bits and the used operands together make up the whole opcode, with no bit in both and none left over". The tag clause is decision D3 (log entry 8), the bits of `uses` decision D4 (log entry 9). What a count counts is RowCountsAreTheWordsClaimed. -/
def Obligations.TableColumnsAgree : Prop :=
  (∀ r ∈ opcodeTable, r.shape = shapeOf r.family ∧ r.uses = usesOf r.family ∧ r.fields = fieldsOf r.shape ∧
    r.encoding.toList = spellEncoding r.mask r.value r.fields) ∧
  (∀ r ∈ opcodeTable, r.tag = tagOf r.family) ∧ opcodeTable.map (fun r => r.tag.toNat) = List.range 36 ∧
  (∀ r ∈ definedRows, r.mask = ~~~ (freeBits r.shape) ∧ r.value &&& freeBits r.shape = 0x0000#16) ∧
  (∀ r ∈ opcodeTable, (r.fallback = true ↔ r.family = .unknown) ∧ (r.excepted ≠ [] ↔ r.family = .callMachineRoutine)) ∧
  (definedRows.map OpcodeRow.count).sum = 48048 ∧ (opcodeTable.map OpcodeRow.count).sum = 65536

/-- R71 over the set of R51, with the literal corrected by C2. -/
def Obligations.UnknownIsExact : Prop :=
  (∀ w : Word, (decode w).family = .unknown ↔
    ((topOf w = 0x5#4 ∧ nOf w ≠ 0x0#4) ∨
     (topOf w = 0x8#4 ∧ (nOf w = 0x8#4 ∨ nOf w = 0x9#4 ∨ nOf w = 0xA#4 ∨ nOf w = 0xB#4 ∨ nOf w = 0xC#4 ∨ nOf w = 0xD#4 ∨
       nOf w = 0xF#4)) ∨
     (topOf w = 0x9#4 ∧ nOf w ≠ 0x0#4) ∨
     (topOf w = 0xE#4 ∧ nnOf w ≠ 0x9E#8 ∧ nnOf w ≠ 0xA1#8) ∨
     (topOf w = 0xF#4 ∧ nnOf w ≠ 0x07#8 ∧ nnOf w ≠ 0x0A#8 ∧ nnOf w ≠ 0x15#8 ∧ nnOf w ≠ 0x18#8 ∧ nnOf w ≠ 0x1E#8 ∧
       nnOf w ≠ 0x29#8 ∧ nnOf w ≠ 0x33#8 ∧ nnOf w ≠ 0x55#8 ∧ nnOf w ≠ 0x65#8))) ∧
  (∀ w : Word, ∀ r ∈ definedRows, (decode w).family = r.family → r.Claims w) ∧
  (decode 0x5120#16).family = .skipEqualRegister ∧ (decode 0x5120#16).x = 0x1#4 ∧ (decode 0x5120#16).y = 0x2#4 ∧
  (decode 0x5121#16).family = .unknown

/-- R67: what the family output cannot depend on. -/
def Obligations.FamilyLooksAtOneFieldBelowTop : Prop :=
  ∀ w v : Word, topOf w = topOf v →
    (topOf w = 0x0#4 → nnnOf w = nnnOf v) →
    (topOf w = 0x5#4 ∨ topOf w = 0x8#4 ∨ topOf w = 0x9#4 → nOf w = nOf v) →
    (topOf w = 0xE#4 ∨ topOf w = 0xF#4 → nnOf w = nnOf v) →
    (decode w).family = (decode v).family

/-- R72(b), with the exception it names. -/
def Obligations.DecodeInvertsEncode : Prop :=
  (∀ i : Instr, decodeInstr (encode i) = i ↔ i.wellFormed = true) ∧
  decodeInstr (encode (.callMachineRoutine 0x0E0#12)) = .clearScreen ∧
  decodeInstr (encode (.callMachineRoutine 0x0EE#12)) = .ret

/-- R72(a): "no bit of the opcode is lost by decoding". -/
def Obligations.EncodeInvertsDecode : Prop :=
  ∀ w : Word, (decodeInstr w).wellFormed = true ∧ encode (decodeInstr w) = w ∧
    (∀ r ∈ definedRows, r.family = (decode w).family → encode (decodeInstr w) &&& r.mask = r.value)

/-- R33 with R60: a 16-bit value is never rejected, and no value is padded for a byte without a partner (log entry 3). -/
def Obligations.BytesDecodeInPairs : Prop :=
  ∀ bytes : List Byte,
    (∀ i rest, decodeBytes bytes = .ok (i, rest) ↔ ∃ a b, bytes = a :: b :: rest ∧ i = decodeInstr (a ++ b)) ∧
    (decodeBytes bytes = .error .trailingByte ↔ bytes.length = 1) ∧
    (decodeBytes bytes = .error .noByte ↔ bytes.length = 0)

/-- Words of the per-family rules and of 95_test_vectors.md, bit by bit. 0x8127 and 0x812E rest on decision D19 (log entry 10). -/
def Obligations.SampleWordsDecode : Prop :=
  decodeInstr 0b0000000011100000#16 = .clearScreen ∧
  decodeInstr 0b0000000011101110#16 = .ret ∧
  decodeInstr 0b0000000011100001#16 = .callMachineRoutine 0x0E1#12 ∧
  decodeInstr 0b0000000000000000#16 = .callMachineRoutine 0x000#12 ∧
  decodeInstr 0b0001000011100000#16 = .jump 0x0E0#12 ∧
  decodeInstr 0b0010101010111100#16 = .callSubroutine 0xABC#12 ∧
  decodeInstr 0b0011101000000000#16 = .skipEqualImmediate 0xA#4 0x00#8 ∧
  decodeInstr 0b0100111101111111#16 = .skipNotEqualImmediate 0xF#4 0x7F#8 ∧
  decodeInstr 0b0101000100100000#16 = .skipEqualRegister 0x1#4 0x2#4 ∧
  decodeInstr 0b0101000100100001#16 = .unknown 0x5121#16 ∧
  decodeInstr 0b0110101000111111#16 = .setImmediate 0xA#4 0x3F#8 ∧
  decodeInstr 0b0111001100000001#16 = .addImmediate 0x3#4 0x01#8 ∧
  decodeInstr 0b1000000100100111#16 = .subReverse 0x1#4 0x2#4 ∧
  decodeInstr 0b1000000100101000#16 = .unknown 0x8128#16 ∧
  decodeInstr 0b1000000100101110#16 = .shiftLeft 0x1#4 0x2#4 ∧
  decodeInstr 0b1001000100100000#16 = .skipNotEqualRegister 0x1#4 0x2#4 ∧
  decodeInstr 0b1010001011110000#16 = .setIndex 0x2F0#12 ∧
  decodeInstr 0b1011001100000000#16 = .jumpAddOffset 0x300#12 ∧
  decodeInstr 0b1100000100001111#16 = .random 0x1#4 0x0F#8 ∧
  decodeInstr 0b1101000100100000#16 = .draw 0x1#4 0x2#4 0x0#4 ∧
  decodeInstr 0b1110000110011110#16 = .skipIfKeyPressed 0x1#4 ∧
  decodeInstr 0b1110000011110001#16 = .unknown 0xE0F1#16 ∧
  decodeInstr 0b1111111101100101#16 = .loadRegisters 0xF#4 ∧
  decodeInstr 0b1111111111111111#16 = .unknown 0xFFFF#16

/-- R66; the bit assignment is decision D4 (log entry 9). -/
def Obligations.UsesMarksTheOperandsUsed : Prop :=
  (∀ f ∈ ([.clearScreen, .ret, .unknown] : List Family), usesOf f = 0b00000#5) ∧
  (∀ f ∈ ([.callMachineRoutine, .jump, .callSubroutine, .setIndex, .jumpAddOffset] : List Family), usesOf f = 0b10000#5) ∧
  (∀ f ∈ ([.skipEqualImmediate, .skipNotEqualImmediate, .setImmediate, .addImmediate, .random] : List Family),
    usesOf f = 0b01001#5) ∧
  (∀ f ∈ ([.skipEqualRegister, .skipNotEqualRegister, .assign, .or, .and, .xor, .addReg, .subReg, .shiftRight,
    .subReverse, .shiftLeft] : List Family), usesOf f = 0b00011#5) ∧
  usesOf .draw = 0b00111#5 ∧
  (∀ f ∈ ([.skipIfKeyPressed, .skipIfKeyNotPressed, .getDelayTimer, .waitKey, .setDelayTimer, .setSoundTimer, .addIndex,
    .setIndexToSpriteAddr, .storeBCD, .dumpRegisters, .loadRegisters] : List Family), usesOf f = 0b00001#5)

/-- R13, R16, R17 (log entry 8). -/
def Obligations.PortsAreFunctionsOfTheOpcode : Prop :=
  (∀ w : Word, portsOf (decode w) =
    { family := tagOf (decode w).family, unknown := if tagOf (decode w).family = 35#6 then 1#1 else 0#1,
      x := w.extractLsb' 8 4, y := w.extractLsb' 4 4, n := w.extractLsb' 0 4, nn := w.extractLsb' 0 8,
      nnn := w.extractLsb' 0 12, raw := w, uses := usesOf (decode w).family } ∧
    (portsOf (decode w)).family.toNat ≤ 35) ∧
  (∀ f g : Family, tagOf f = tagOf g → f = g)

/-- R18 and R66: a defined instruction is fully described by its family and used operands, an Unknown by its raw. -/
def Obligations.SameInstructionIsSameWord : Prop :=
  ∀ w v : Word, SameInstruction (decode w) (decode v) ↔ w = v

/-- R80, R81, R82. Unused operand ports, bit assignment of uses, and display text are decisions D4, D9, D10. -/
def Obligations.TopZeroFamiliesDriveTheirRecords : Prop :=
  RuleOf .clearScreen 0x00E0#16
    { family := .clearScreen, x := 0x0#4, y := 0xE#4, n := 0x0#4, nn := 0xE0#8, nnn := 0x0E0#12, raw := 0x00E0#16,
      uses := 0b00000#5, unknown := false } "clear" ∧
  RuleOf .ret 0x00EE#16
    { family := .ret, x := 0x0#4, y := 0xE#4, n := 0xE#4, nn := 0xEE#8, nnn := 0x0EE#12, raw := 0x00EE#16,
      uses := 0b00000#5, unknown := false } "return" ∧
  ∀ nnn : Addr, nnn ≠ 0x0E0#12 → nnn ≠ 0x0EE#12 →
    RuleOf (.callMachineRoutine nnn) (0x0#4 ++ nnn) (nnnRecord .callMachineRoutine 0x0#4 nnn) ("sys " ++ dec nnn.toNat)

/-- R83, R84, R89, R90. Unused operand ports, bit assignment of uses, and display text are decisions D4, D9, D10. -/
def Obligations.AddressFamiliesDriveTheirRecords : Prop :=
  ∀ nnn : Addr,
    RuleOf (.jump nnn) (0x1#4 ++ nnn) (nnnRecord .jump 0x1#4 nnn) ("jump " ++ dec nnn.toNat) ∧
    RuleOf (.callSubroutine nnn) (0x2#4 ++ nnn) (nnnRecord .callSubroutine 0x2#4 nnn) ("call " ++ dec nnn.toNat) ∧
    RuleOf (.setIndex nnn) (0xA#4 ++ nnn) (nnnRecord .setIndex 0xA#4 nnn) ("I = " ++ dec nnn.toNat) ∧
    RuleOf (.jumpAddOffset nnn) (0xB#4 ++ nnn) (nnnRecord .jumpAddOffset 0xB#4 nnn) ("jump V0 + " ++ dec nnn.toNat)

/-- R85, R86, R87, R88, R91. Unused operand ports, bit assignment of uses, and display text are decisions D4, D9, D10. -/
def Obligations.ImmediateFamiliesDriveTheirRecords : Prop :=
  ∀ (x : Nibble) (nn : Byte),
    RuleOf (.skipEqualImmediate x nn) (0x3#4 ++ x ++ nn) (xnnRecord .skipEqualImmediate 0x3#4 x nn)
      ("skip if V" ++ dec x.toNat ++ " == " ++ dec nn.toNat) ∧
    RuleOf (.skipNotEqualImmediate x nn) (0x4#4 ++ x ++ nn) (xnnRecord .skipNotEqualImmediate 0x4#4 x nn)
      ("skip if V" ++ dec x.toNat ++ " != " ++ dec nn.toNat) ∧
    RuleOf (.setImmediate x nn) (0x6#4 ++ x ++ nn) (xnnRecord .setImmediate 0x6#4 x nn)
      ("V" ++ dec x.toNat ++ " = " ++ dec nn.toNat) ∧
    RuleOf (.addImmediate x nn) (0x7#4 ++ x ++ nn) (xnnRecord .addImmediate 0x7#4 x nn)
      ("V" ++ dec x.toNat ++ " += " ++ dec nn.toNat) ∧
    RuleOf (.random x nn) (0xC#4 ++ x ++ nn) (xnnRecord .random 0xC#4 x nn)
      ("V" ++ dec x.toNat ++ " = rand & " ++ dec nn.toNat)

/-- R92: the only family that uses `n`, 0 included. Unused operand ports, bit assignment of uses, and display text are decisions D4, D9, D10. -/
def Obligations.DrawDrivesItsRecord : Prop :=
  ∀ x y n : Nibble, RuleOf (.draw x y n) (0xD#4 ++ x ++ y ++ n) (nibblesRecord .draw 0xD#4 x y n 0b00111#5)
    ("draw V" ++ dec x.toNat ++ ", V" ++ dec y.toNat ++ ", " ++ dec n.toNat)

/-- R93, R94. Unused operand ports, bit assignment of uses, and display text are decisions D4, D9, D10. -/
def Obligations.RegisterCompareFamiliesDriveTheirRecords : Prop :=
  ∀ x y : Nibble,
    RuleOf (.skipEqualRegister x y) (0x5#4 ++ x ++ y ++ 0x0#4) (nibblesRecord .skipEqualRegister 0x5#4 x y 0x0#4 0b00011#5)
      ("skip if V" ++ dec x.toNat ++ " == V" ++ dec y.toNat) ∧
    RuleOf (.skipNotEqualRegister x y) (0x9#4 ++ x ++ y ++ 0x0#4) (nibblesRecord .skipNotEqualRegister 0x9#4 x y 0x0#4 0b00011#5)
      ("skip if V" ++ dec x.toNat ++ " != V" ++ dec y.toNat)

/-- R95 to R103. Unused operand ports, bit assignment of uses, and display text are decisions D4, D9, D10. The pairing is D19 (log entry 10). -/
def Obligations.AluFamiliesDriveTheirRecords : Prop :=
  ∀ x y : Nibble,
    RuleOf (.assign x y) (0x8#4 ++ x ++ y ++ 0x0#4) (nibblesRecord .assign 0x8#4 x y 0x0#4 0b00011#5)
      ("V" ++ dec x.toNat ++ " = V" ++ dec y.toNat) ∧
    RuleOf (.or x y) (0x8#4 ++ x ++ y ++ 0x1#4) (nibblesRecord .or 0x8#4 x y 0x1#4 0b00011#5)
      ("V" ++ dec x.toNat ++ " |= V" ++ dec y.toNat) ∧
    RuleOf (.and x y) (0x8#4 ++ x ++ y ++ 0x2#4) (nibblesRecord .and 0x8#4 x y 0x2#4 0b00011#5)
      ("V" ++ dec x.toNat ++ " &= V" ++ dec y.toNat) ∧
    RuleOf (.xor x y) (0x8#4 ++ x ++ y ++ 0x3#4) (nibblesRecord .xor 0x8#4 x y 0x3#4 0b00011#5)
      ("V" ++ dec x.toNat ++ " ^= V" ++ dec y.toNat) ∧
    RuleOf (.addReg x y) (0x8#4 ++ x ++ y ++ 0x4#4) (nibblesRecord .addReg 0x8#4 x y 0x4#4 0b00011#5)
      ("V" ++ dec x.toNat ++ " += V" ++ dec y.toNat) ∧
    RuleOf (.subReg x y) (0x8#4 ++ x ++ y ++ 0x5#4) (nibblesRecord .subReg 0x8#4 x y 0x5#4 0b00011#5)
      ("V" ++ dec x.toNat ++ " -= V" ++ dec y.toNat) ∧
    RuleOf (.shiftRight x y) (0x8#4 ++ x ++ y ++ 0x6#4) (nibblesRecord .shiftRight 0x8#4 x y 0x6#4 0b00011#5)
      ("V" ++ dec x.toNat ++ " = V" ++ dec y.toNat ++ " >> 1") ∧
    RuleOf (.subReverse x y) (0x8#4 ++ x ++ y ++ 0x7#4) (nibblesRecord .subReverse 0x8#4 x y 0x7#4 0b00011#5)
      ("V" ++ dec x.toNat ++ " = V" ++ dec y.toNat ++ " - V" ++ dec x.toNat) ∧
    RuleOf (.shiftLeft x y) (0x8#4 ++ x ++ y ++ 0xE#4) (nibblesRecord .shiftLeft 0x8#4 x y 0xE#4 0b00011#5)
      ("V" ++ dec x.toNat ++ " = V" ++ dec y.toNat ++ " << 1")

/-- R104, R105. Unused operand ports, bit assignment of uses, and display text are decisions D4, D9, D10. -/
def Obligations.KeyFamiliesDriveTheirRecords : Prop :=
  ∀ x : Nibble,
    RuleOf (.skipIfKeyPressed x) (0xE#4 ++ x ++ 0x9E#8) (xRecord .skipIfKeyPressed 0xE#4 x 0x9E#8) ("skip if key V" ++ dec x.toNat) ∧
    RuleOf (.skipIfKeyNotPressed x) (0xE#4 ++ x ++ 0xA1#8) (xRecord .skipIfKeyNotPressed 0xE#4 x 0xA1#8) ("skip if not key V" ++ dec x.toNat)

/-- R106 to R114. Unused operand ports, bit assignment of uses, and display text are decisions D4, D9, D10. -/
def Obligations.MiscFamiliesDriveTheirRecords : Prop :=
  ∀ x : Nibble,
    RuleOf (.getDelayTimer x) (0xF#4 ++ x ++ 0x07#8) (xRecord .getDelayTimer 0xF#4 x 0x07#8) ("V" ++ dec x.toNat ++ " = delay") ∧
    RuleOf (.waitKey x) (0xF#4 ++ x ++ 0x0A#8) (xRecord .waitKey 0xF#4 x 0x0A#8) ("V" ++ dec x.toNat ++ " = key") ∧
    RuleOf (.setDelayTimer x) (0xF#4 ++ x ++ 0x15#8) (xRecord .setDelayTimer 0xF#4 x 0x15#8) ("delay = V" ++ dec x.toNat) ∧
    RuleOf (.setSoundTimer x) (0xF#4 ++ x ++ 0x18#8) (xRecord .setSoundTimer 0xF#4 x 0x18#8) ("sound = V" ++ dec x.toNat) ∧
    RuleOf (.addIndex x) (0xF#4 ++ x ++ 0x1E#8) (xRecord .addIndex 0xF#4 x 0x1E#8) ("I += V" ++ dec x.toNat) ∧
    RuleOf (.setIndexToSpriteAddr x) (0xF#4 ++ x ++ 0x29#8) (xRecord .setIndexToSpriteAddr 0xF#4 x 0x29#8) ("I = sprite V" ++ dec x.toNat) ∧
    RuleOf (.storeBCD x) (0xF#4 ++ x ++ 0x33#8) (xRecord .storeBCD 0xF#4 x 0x33#8) ("bcd V" ++ dec x.toNat) ∧
    RuleOf (.dumpRegisters x) (0xF#4 ++ x ++ 0x55#8) (xRecord .dumpRegisters 0xF#4 x 0x55#8) ("dump V0..V" ++ dec x.toNat) ∧
    RuleOf (.loadRegisters x) (0xF#4 ++ x ++ 0x65#8) (xRecord .loadRegisters 0xF#4 x 0x65#8) ("load V0..V" ++ dec x.toNat)

/-- R115; unused ports and marker are decisions D4 and D11. -/
def Obligations.UnknownDrivesItsRecord : Prop :=
  ∀ raw : Word, unassigned raw = true →
    RuleOf (.unknown raw) raw (unknownRecord raw) ("UNKNOWN 0x" ++ hex4 raw)

/-- R64 against the per-family rules of 41_ to 47_: they "each restate one leaf of this tree". -/
def Obligations.ExecAgreesWithTheTree : Prop :=
  ∀ (i : Instr) (s : State), i.wellFormed = true → exec i s = .next { s with out := decode (encode i) }

/-- R74, the frame of every instruction. -/
def Obligations.DecodingIsAllAnInstructionDoes : Prop :=
  ∀ (i : Instr) (s : State), ∃ t, exec i s = .next t ∧ (∀ a, Memory.read t.rom a = Memory.read s.rom a) ∧
    t.rom = s.rom ∧ t.offset = s.offset ∧ t.opcode = s.opcode ∧ t.records = s.records

/-- R141. -/
def Obligations.NeverFaultsNeverRefuses : Prop :=
  (∀ s : State, s.GoesOn) ∧
  (∀ (w : Word) (s : State), ∃ t, exec (decodeInstr w) s = .next t ∧ t.out.family = (decode w).family)

/-- What step adds around exec: one turn of the driver (log entry 2), the offset moved by 2 (D7, log entry 3), the record appended to the list (log entry 18). -/
def Obligations.StepRunsTheDecodedInstruction : Prop :=
  ∀ (s : State) (a b : Byte) (i : Instr),
    Memory.read s.rom s.offset = some a → Memory.read s.rom (s.offset + 1) = some b → decodeInstr (a ++ b) = i →
    ∃ t, exec i { s with opcode := a ++ b, offset := s.offset + 2 } = .next t ∧
      step s = .next { t with records := t.records ++ [t.out] }

/-- R73 gives the outputs; the step as one turn of the driver is log entry 2, the offset moved by 2 is D7 (log entry 3), the list of records log entry 18. The part that is R73 alone is ResultsAreDecodeInAnyOrder. -/
def Obligations.StepGivesDecodeOfTheOpcode : Prop :=
  ∀ (s : State) (w : Word), nextOpcode s = some w →
    step s = .next { rom := s.rom, offset := s.offset + 2, opcode := w, out := decode w, records := s.records ++ [decode w] }

/-- R36(a) and R10: no earlier input, no other instance, no time. -/
def Obligations.OutputsForgetThePast : Prop :=
  ∀ (s u s' u' : State) (w : Word), nextOpcode s = some w → nextOpcode u = some w → step s = .next s' → step u = .next u' →
    s'.out = u'.out ∧ s'.opcode = u'.opcode ∧ portsOf s'.out = portsOf u'.out

/-- R34: the ROM is read-only and reads have no side effect. -/
def Obligations.StepKeepsTheRom : Prop :=
  ∀ s t : State, step s = .next t →
    (∀ a, Memory.read t.rom a = Memory.read s.rom a) ∧ (Memory.wf s.rom → Memory.wf t.rom)

/-- R33, R158; staying put at the end is the model's choice (log entry 4). -/
def Obligations.RunEndsAfterTheLastWholeOpcode : Prop :=
  (∀ s : State, step s = .next s ↔ nextOpcode s = none) ∧
  (∀ s : State, s.Consistent → (nextOpcode s = none ↔ s.rom.length < s.offset + 2))

/-- R24, as an invariant; the value on the input at reset does not matter to it. -/
def Obligations.OutputsAlwaysDecodeTheInput : Prop :=
  State.reset.out = decode State.reset.opcode ∧
  (∀ s t : State, s.out = decode s.opcode → step s = .next t → t.out = decode t.opcode)

/-- R150, R151; the input value at reset is the model's choice (log entry 5). -/
def Obligations.ResetIsConsistent : Prop :=
  State.reset.Consistent ∧ State.reset.rom = [] ∧ State.reset.offset = 0 ∧ State.reset.records = [] ∧
  State.reset.out.family = .callMachineRoutine ∧ State.reset.out.nnn = 0x000#12

/-- The invariant of Safety.lean, from every state that meets it; the byte pairs are D7 (log entry 3). -/
def Obligations.StepKeepsConsistent : Prop :=
  ∀ s t : State, s.Consistent → step s = .next t → t.Consistent

/-- The ways the outside world reaches the model (log entry 6). -/
def Obligations.PlacedRomIsConsistent : Prop :=
  (∀ (bytes : List Byte) (s : State), s.out = decode s.opcode → (loadRom bytes s).Consistent) ∧
  (∀ (s : State) (w : Word), nextOpcode (s.withFetchWord 16 w.toNat) = some w ∧
    decodeTableWord 16 w.toNat = some (decodeInstr w) ∧
    (∀ a, a ≠ s.offset → a ≠ s.offset + 1 → Memory.read (s.withFetchWord 16 w.toNat).rom a = Memory.read s.rom a) ∧
    s.withFetchWord 16 w.toNat = { s with rom := (s.withFetchWord 16 w.toNat).rom } ∧
    (s.Consistent → (s.withFetchWord 16 w.toNat).Consistent))

/-- R32, R33 (decision D7, log entry 3). -/
def Obligations.OpcodesAreTheEvenPairs : Prop :=
  ∀ bytes : List Byte, (opcodesOf bytes).length = bytes.length / 2 ∧
    ∀ (k : Nat) (a b : Byte), bytes[2 * k]? = some a → bytes[2 * k + 1]? = some b → (opcodesOf bytes)[k]? = some (a ++ b)

/-- R128: "for each opcode, one line of text", in ROM order. -/
def Obligations.ListingIsTheLinesSoFar : Prop :=
  ∀ s : State, s.Consistent → listing s = (disassembly (romBytes s.rom)).take (s.offset / 2)

/-- R158, over every ROM (decision D7, log entries 2, 3, 4). -/
def Obligations.RunIsTheDisassembly : Prop :=
  ∀ (bytes : List Byte) (s : State) (k : Nat), ∃ t : State, Sys2Proof.core.run k (loadRom bytes s) = .next t ∧
    listing t = (disassembly bytes).take k ∧
    (bytes.length / 2 ≤ k → listing t = disassembly bytes ∧ t.records = (opcodesOf bytes).map decode ∧ finished t = true)

/-- R7 and R122 (decision D9, log entry 11). -/
def Obligations.DecIsTheDecimalNumeral : Prop :=
  ∀ v : Nat, (dec v).toList ≠ [] ∧ (∀ c ∈ (dec v).toList, '0' ≤ c ∧ c ≤ '9') ∧
    ((dec v).toList.head? = some '0' → dec v = "0") ∧
    (dec v).toList.foldl (fun acc c => 10 * acc + (c.toNat - 48)) 0 = v

/-- R7 and R128 (decision D12, log entry 11). -/
def Obligations.HexIsFourLowercaseDigits : Prop :=
  ∀ w : Word, (hex4 w).toList.length = 4 ∧
    (∀ c ∈ (hex4 w).toList, ('0' ≤ c ∧ c ≤ '9') ∨ ('a' ≤ c ∧ c ≤ 'f')) ∧
    (hex4 w).toList.foldl (fun acc c => 16 * acc + (if c ≤ '9' then c.toNat - 48 else c.toNat - 87)) 0 = w.toNat ∧
    (line w).toList = (hex4 w).toList ++ [':', ' '] ++ (render (decode w)).toList

/-- R124 (decision D9). -/
def Obligations.RegisterNamesAreDecimal : Prop :=
  ([0, 1, 2, 3, 4, 5, 6, 7, 8, 9, 10, 11, 12, 13, 14, 15] : List Nat).map (fun i => regName (BitVec.ofNat 4 i)) =
    ["V0", "V1", "V2", "V3", "V4", "V5", "V6", "V7", "V8", "V9", "V10", "V11", "V12", "V13", "V14", "V15"]

/-- R121 (decision D22, log entry 16). -/
def Obligations.RenderReadsOnlyUsedFields : Prop :=
  ∀ d e : DecodedInstruction, SameInstruction d e → render d = render e

/-- R126, over all records; it rests on the templates decided in D9 to D11 (log entry 11). -/
def Obligations.RenderIsInjective : Prop :=
  (∀ d e : DecodedInstruction, render d = render e → SameInstruction d e) ∧
  (∀ w v : Word, render (decode w) = render (decode v) → w = v)

/-- R125 (decision D11, log entry 11). -/
def Obligations.UnknownMarkerIsDistinguishable : Prop :=
  ∀ d : DecodedInstruction,
    (d.family = .unknown → render d = "UNKNOWN 0x" ++ hex4 d.raw ∧ (render d).toList.length = 14) ∧
    (d.family ≠ .unknown → (render d).toList.head? ≠ some 'U')

/-- R130, and R129: no string holds a terminal escape sequence. -/
def Obligations.LinesArePrintableAscii : Prop :=
  ∀ c : Char, ((∃ d, c ∈ (render d).toList) ∨ (∃ w, c ∈ (line w).toList)) →
    0x20 ≤ c.toNat ∧ c.toNat ≤ 0x7E ∧
    (c.isAlphanum = true ∨ c ∈ [' ', '=', '+', '-', '|', '&', '^', '<', '>', '!', ',', '.', ':'])

/-- R50, the column "count", and R54: each count is tied to its own row, so no two of them can be exchanged. -/
def Obligations.RowCountsAreTheWordsClaimed : Prop :=
  ∀ r ∈ opcodeTable, ((List.range 65536).filter (fun v => decide (r.Claims (BitVec.ofNat 16 v)))).length = r.count

/-- R73: no clause on the driver. The states may be those of one instance in turn or of several, since nothing ties them together. -/
def Obligations.ResultsAreDecodeInAnyOrder : Prop :=
  (∀ (s : State) (w : Word), settle { s with opcode := w } = .next { s with opcode := w, out := decode w }) ∧
  (∀ (w : Nat → Word) (s t : Nat → State), (∀ k, settle { s k with opcode := w k } = .next (t k)) →
    ∀ k, (t k).out = decode (w k))
end

