-- ==== Sys2Proof/Laws/Memory.lean ====
section
/-! SUPPORT. The ROM image: a read after a write, the canonical form kept by every operation, the image of a file. -/

namespace Sys2Proof.Machine

@[simp] theorem Memory.read_nil (a : Nat) : Memory.read [] a = none := rfl

theorem Memory.read_cons (c : Host.Cell) (m : Memory) (a : Nat) :
    Memory.read (c :: m) a = if a = c.1 then some c.2 else Memory.read m a := rfl

@[simp] theorem Memory.read_write_same (m : Memory) (a : Nat) (b : Byte) : Memory.read (Memory.write m a b) a = some b := by
  induction m with
  | nil => simp [Memory.write, Memory.read]
  | cons c m ih =>
    obtain ⟨a', b'⟩ := c
    simp only [Memory.write]
    split
    · simp [Memory.read]
    · split
      · simp [Memory.read]
      · rename_i hne
        simp [Memory.read, hne, ih]

theorem Memory.read_write_other (m : Memory) (a c : Nat) (b : Byte) (h : c ≠ a) :
    Memory.read (Memory.write m a b) c = Memory.read m c := by
  induction m with
  | nil => simp [Memory.write, Memory.read, h]
  | cons e m ih =>
    obtain ⟨a', b'⟩ := e
    simp only [Memory.write]
    split
    · simp [Memory.read, h]
    · split
      · rename_i heq
        subst heq
        simp [Memory.read, h]
      · simp [Memory.read, ih]

/-- Where the cells of a written image come from. -/
theorem Memory.mem_write {m : Memory} {a : Nat} {b : Byte} {c : Host.Cell} (h : c ∈ Memory.write m a b) :
    c = (a, b) ∨ c ∈ m := by
  induction m with
  | nil => simpa [Memory.write] using h
  | cons e m ih =>
    obtain ⟨a', b'⟩ := e
    simp only [Memory.write] at h
    split at h
    · simpa using h
    · split at h
      · simp only [List.mem_cons] at h ⊢
        tauto
      · simp only [List.mem_cons] at h ⊢
        rcases h with h | h
        · exact .inr (.inl h)
        · rcases ih h with h | h
          · exact .inl h
          · exact .inr (.inr h)

theorem Memory.write_wf {m : Memory} (a : Nat) (b : Byte) (h : Memory.wf m) : Memory.wf (Memory.write m a b) := by
  induction m with
  | nil => simp [Memory.write, Memory.wf]
  | cons e m ih =>
    obtain ⟨a', b'⟩ := e
    obtain ⟨hlt, hm⟩ := List.pairwise_cons.mp h
    simp only [Memory.write]
    split
    · rename_i hlow
      refine List.pairwise_cons.mpr ⟨fun c hc => ?_, h⟩
      rcases List.mem_cons.mp hc with rfl | hc
      · exact hlow
      · exact hlow.trans (hlt c hc)
    · split
      · rename_i heq
        subst heq
        exact List.pairwise_cons.mpr ⟨hlt, hm⟩
      · rename_i hge hne
        refine List.pairwise_cons.mpr ⟨fun c hc => ?_, ih hm⟩
        rcases Memory.mem_write hc with rfl | hc
        · exact lt_of_le_of_ne (not_lt.mp hge) (Ne.symm hne)
        · exact hlt c hc

theorem cellsFrom_le {a : Nat} {bytes : List Byte} {c : Host.Cell} (h : c ∈ cellsFrom a bytes) : a ≤ c.1 := by
  induction bytes generalizing a with
  | nil => simp [cellsFrom] at h
  | cons b rest ih =>
    rcases List.mem_cons.mp h with rfl | h
    · exact le_rfl
    · exact (Nat.le_succ a).trans (ih h)

theorem cellsFrom_wf (a : Nat) (bytes : List Byte) : Memory.wf (cellsFrom a bytes) := by
  induction bytes generalizing a with
  | nil => simp [cellsFrom, Memory.wf]
  | cons b rest ih => exact List.pairwise_cons.mpr ⟨fun c hc => cellsFrom_le hc, ih (a + 1)⟩

/-- The image of a file is in canonical form. -/
theorem romImage_wf (bytes : List Byte) : Memory.wf (romImage bytes) := cellsFrom_wf 0 bytes

theorem placeNextOpcode_wf {s : State} (w : Word) (h : Memory.wf s.rom) : Memory.wf (placeNextOpcode w s).rom :=
  Memory.write_wf _ _ (Memory.write_wf _ _ h)

theorem reset_rom_wf : Memory.wf State.reset.rom := List.Pairwise.nil

theorem read_cellsFrom (a k : Nat) (bytes : List Byte) : Memory.read (cellsFrom a bytes) (a + k) = bytes[k]? := by
  induction bytes generalizing a k with
  | nil => simp [cellsFrom]
  | cons b rest ih =>
    cases k with
    | zero => simp [cellsFrom, Memory.read]
    | succ k =>
      have := ih (a + 1) k
      rw [show a + 1 + k = a + (k + 1) by omega] at this
      simp [cellsFrom, Memory.read, this]

/-- The image of a file has at offset `k` the file's byte `k`, and nothing past its end (R30). -/
theorem read_romImage (k : Nat) (bytes : List Byte) : Memory.read (romImage bytes) k = bytes[k]? := by
  simpa [romImage] using read_cellsFrom 0 k bytes

@[simp] theorem romBytes_cellsFrom (a : Nat) (bytes : List Byte) : romBytes (cellsFrom a bytes) = bytes := by
  induction bytes generalizing a with
  | nil => rfl
  | cons b rest ih => simpa [romBytes, cellsFrom] using ih (a + 1)

@[simp] theorem romBytes_romImage (bytes : List Byte) : romBytes (romImage bytes) = bytes := romBytes_cellsFrom 0 bytes

@[simp] theorem length_romBytes (m : Memory) : (romBytes m).length = m.length := List.length_map _

end Sys2Proof.Machine
end

