-- ==== Sys2Proof/Laws/Operands.lean ====
section
/-! SUPPORT. The slices of a word laid out from its fields, the fields laid out from the slices, and a word assembled from its
bytes. -/

namespace Sys2Proof.Machine

@[simp] theorem topOf_nnn (t : Nibble) (nnn : Addr) : topOf (t ++ nnn) = t := by
  unfold topOf
  apply BitVec.eq_of_getLsbD_eq
  intro i hi
  simp only [BitVec.getLsbD_append, BitVec.getLsbD_extractLsb']
  interval_cases i <;> simp

@[simp] theorem nnnOf_nnn (t : Nibble) (nnn : Addr) : nnnOf (t ++ nnn) = nnn := by
  unfold nnnOf
  apply BitVec.eq_of_getLsbD_eq
  intro i hi
  simp only [BitVec.getLsbD_append, BitVec.getLsbD_extractLsb']
  interval_cases i <;> simp

@[simp] theorem xOf_nnn (t : Nibble) (nnn : Addr) : xOf (t ++ nnn) = nnn.extractLsb' 8 4 := by
  unfold xOf
  apply BitVec.eq_of_getLsbD_eq
  intro i hi
  simp only [BitVec.getLsbD_append, BitVec.getLsbD_extractLsb']
  interval_cases i <;> simp

@[simp] theorem yOf_nnn (t : Nibble) (nnn : Addr) : yOf (t ++ nnn) = nnn.extractLsb' 4 4 := by
  unfold yOf
  apply BitVec.eq_of_getLsbD_eq
  intro i hi
  simp only [BitVec.getLsbD_append, BitVec.getLsbD_extractLsb']
  interval_cases i <;> simp

@[simp] theorem nOf_nnn (t : Nibble) (nnn : Addr) : nOf (t ++ nnn) = nnn.extractLsb' 0 4 := by
  unfold nOf
  apply BitVec.eq_of_getLsbD_eq
  intro i hi
  simp only [BitVec.getLsbD_append, BitVec.getLsbD_extractLsb']
  interval_cases i <;> simp

@[simp] theorem nnOf_nnn (t : Nibble) (nnn : Addr) : nnOf (t ++ nnn) = nnn.extractLsb' 0 8 := by
  unfold nnOf
  apply BitVec.eq_of_getLsbD_eq
  intro i hi
  simp only [BitVec.getLsbD_append, BitVec.getLsbD_extractLsb']
  interval_cases i <;> simp

@[simp] theorem topOf_xnn (t x : Nibble) (nn : Byte) : topOf (t ++ x ++ nn) = t := by
  unfold topOf
  apply BitVec.eq_of_getLsbD_eq
  intro i hi
  simp only [BitVec.getLsbD_append, BitVec.getLsbD_extractLsb']
  interval_cases i <;> simp

@[simp] theorem xOf_xnn (t x : Nibble) (nn : Byte) : xOf (t ++ x ++ nn) = x := by
  unfold xOf
  apply BitVec.eq_of_getLsbD_eq
  intro i hi
  simp only [BitVec.getLsbD_append, BitVec.getLsbD_extractLsb']
  interval_cases i <;> simp

@[simp] theorem nnOf_xnn (t x : Nibble) (nn : Byte) : nnOf (t ++ x ++ nn) = nn := by
  unfold nnOf
  apply BitVec.eq_of_getLsbD_eq
  intro i hi
  simp only [BitVec.getLsbD_append, BitVec.getLsbD_extractLsb']
  interval_cases i <;> simp

@[simp] theorem yOf_xnn (t x : Nibble) (nn : Byte) : yOf (t ++ x ++ nn) = nn.extractLsb' 4 4 := by
  unfold yOf
  apply BitVec.eq_of_getLsbD_eq
  intro i hi
  simp only [BitVec.getLsbD_append, BitVec.getLsbD_extractLsb']
  interval_cases i <;> simp

@[simp] theorem nOf_xnn (t x : Nibble) (nn : Byte) : nOf (t ++ x ++ nn) = nn.extractLsb' 0 4 := by
  unfold nOf
  apply BitVec.eq_of_getLsbD_eq
  intro i hi
  simp only [BitVec.getLsbD_append, BitVec.getLsbD_extractLsb']
  interval_cases i <;> simp

@[simp] theorem nnnOf_xnn (t x : Nibble) (nn : Byte) : nnnOf (t ++ x ++ nn) = x ++ nn := by
  unfold nnnOf
  apply BitVec.eq_of_getLsbD_eq
  intro i hi
  simp only [BitVec.getLsbD_append, BitVec.getLsbD_extractLsb']
  interval_cases i <;> simp

@[simp] theorem topOf_xyn (t x y n : Nibble) : topOf (t ++ x ++ y ++ n) = t := by
  unfold topOf
  apply BitVec.eq_of_getLsbD_eq
  intro i hi
  simp only [BitVec.getLsbD_append, BitVec.getLsbD_extractLsb']
  interval_cases i <;> simp

@[simp] theorem xOf_xyn (t x y n : Nibble) : xOf (t ++ x ++ y ++ n) = x := by
  unfold xOf
  apply BitVec.eq_of_getLsbD_eq
  intro i hi
  simp only [BitVec.getLsbD_append, BitVec.getLsbD_extractLsb']
  interval_cases i <;> simp

@[simp] theorem yOf_xyn (t x y n : Nibble) : yOf (t ++ x ++ y ++ n) = y := by
  unfold yOf
  apply BitVec.eq_of_getLsbD_eq
  intro i hi
  simp only [BitVec.getLsbD_append, BitVec.getLsbD_extractLsb']
  interval_cases i <;> simp

@[simp] theorem nOf_xyn (t x y n : Nibble) : nOf (t ++ x ++ y ++ n) = n := by
  unfold nOf
  apply BitVec.eq_of_getLsbD_eq
  intro i hi
  simp only [BitVec.getLsbD_append, BitVec.getLsbD_extractLsb']
  interval_cases i <;> simp

@[simp] theorem nnOf_xyn (t x y n : Nibble) : nnOf (t ++ x ++ y ++ n) = y ++ n := by
  unfold nnOf
  apply BitVec.eq_of_getLsbD_eq
  intro i hi
  simp only [BitVec.getLsbD_append, BitVec.getLsbD_extractLsb']
  interval_cases i <;> simp

@[simp] theorem nnnOf_xyn (t x y n : Nibble) : nnnOf (t ++ x ++ y ++ n) = x ++ y ++ n := by
  unfold nnnOf
  apply BitVec.eq_of_getLsbD_eq
  intro i hi
  simp only [BitVec.getLsbD_append, BitVec.getLsbD_extractLsb']
  interval_cases i <;> simp

/-- A word is its top nibble and its `nnn` (R42). -/
theorem word_eq_top_nnn (w : Word) : w = topOf w ++ nnnOf w := by
  unfold topOf nnnOf
  apply BitVec.eq_of_getLsbD_eq
  intro i hi
  simp only [BitVec.getLsbD_append, BitVec.getLsbD_extractLsb']
  interval_cases i <;> simp

/-- A word is its top nibble, `x` and `nn` (R42). -/
theorem word_eq_top_x_nn (w : Word) : w = topOf w ++ xOf w ++ nnOf w := by
  unfold topOf xOf nnOf
  apply BitVec.eq_of_getLsbD_eq
  intro i hi
  simp only [BitVec.getLsbD_append, BitVec.getLsbD_extractLsb']
  interval_cases i <;> simp

/-- A word is its four nibbles (R41, R42). -/
theorem word_eq_nibbles (w : Word) : w = topOf w ++ xOf w ++ yOf w ++ nOf w := by
  unfold topOf xOf yOf nOf
  apply BitVec.eq_of_getLsbD_eq
  intro i hi
  simp only [BitVec.getLsbD_append, BitVec.getLsbD_extractLsb']
  interval_cases i <;> simp

/-- An opcode taken apart into its two bytes and assembled again (R30). -/
@[simp] theorem assemble_bytes (w : Word) : assemble (firstByte w) (secondByte w) = w := by
  unfold assemble firstByte secondByte
  apply BitVec.eq_of_getLsbD_eq
  intro i hi
  simp only [BitVec.getLsbD_or, BitVec.getLsbD_shiftLeft, BitVec.getLsbD_setWidth, BitVec.getLsbD_extractLsb']
  interval_cases i <;> simp

end Sys2Proof.Machine
end

