-- ==== Sys2Proof/Laws/State.lean ====
section
/-! SUPPORT. One lemma for each field of each update of State. -/

namespace Sys2Proof.Machine

@[simp] theorem drive_rom (d : DecodedInstruction) (s : State) : (drive d s).rom = s.rom := rfl
@[simp] theorem drive_offset (d : DecodedInstruction) (s : State) : (drive d s).offset = s.offset := rfl
@[simp] theorem drive_opcode (d : DecodedInstruction) (s : State) : (drive d s).opcode = s.opcode := rfl
@[simp] theorem drive_out (d : DecodedInstruction) (s : State) : (drive d s).out = d := rfl
@[simp] theorem drive_records (d : DecodedInstruction) (s : State) : (drive d s).records = s.records := rfl

@[simp] theorem present_rom (w : Word) (s : State) : (present w s).rom = s.rom := rfl
@[simp] theorem present_offset (w : Word) (s : State) : (present w s).offset = s.offset + 2 := rfl
@[simp] theorem present_opcode (w : Word) (s : State) : (present w s).opcode = w := rfl
@[simp] theorem present_out (w : Word) (s : State) : (present w s).out = s.out := rfl
@[simp] theorem present_records (w : Word) (s : State) : (present w s).records = s.records := rfl

@[simp] theorem loadRom_rom (bytes : List Byte) (s : State) : (loadRom bytes s).rom = romImage bytes := rfl
@[simp] theorem loadRom_offset (bytes : List Byte) (s : State) : (loadRom bytes s).offset = 0 := rfl
@[simp] theorem loadRom_opcode (bytes : List Byte) (s : State) : (loadRom bytes s).opcode = s.opcode := rfl
@[simp] theorem loadRom_out (bytes : List Byte) (s : State) : (loadRom bytes s).out = s.out := rfl
@[simp] theorem loadRom_records (bytes : List Byte) (s : State) : (loadRom bytes s).records = [] := rfl

@[simp] theorem placeNextOpcode_rom (w : Word) (s : State) : (placeNextOpcode w s).rom =
    Memory.write (Memory.write s.rom s.offset (firstByte w)) (s.offset + 1) (secondByte w) := rfl
@[simp] theorem placeNextOpcode_offset (w : Word) (s : State) : (placeNextOpcode w s).offset = s.offset := rfl
@[simp] theorem placeNextOpcode_opcode (w : Word) (s : State) : (placeNextOpcode w s).opcode = s.opcode := rfl
@[simp] theorem placeNextOpcode_out (w : Word) (s : State) : (placeNextOpcode w s).out = s.out := rfl
@[simp] theorem placeNextOpcode_records (w : Word) (s : State) : (placeNextOpcode w s).records = s.records := rfl

@[simp] theorem record_family (f : Family) (w : Word) (u : UsesMask) (b : Bool) : (record f w u b).family = f := rfl
@[simp] theorem record_x (f : Family) (w : Word) (u : UsesMask) (b : Bool) : (record f w u b).x = xOf w := rfl
@[simp] theorem record_y (f : Family) (w : Word) (u : UsesMask) (b : Bool) : (record f w u b).y = yOf w := rfl
@[simp] theorem record_n (f : Family) (w : Word) (u : UsesMask) (b : Bool) : (record f w u b).n = nOf w := rfl
@[simp] theorem record_nn (f : Family) (w : Word) (u : UsesMask) (b : Bool) : (record f w u b).nn = nnOf w := rfl
@[simp] theorem record_nnn (f : Family) (w : Word) (u : UsesMask) (b : Bool) : (record f w u b).nnn = nnnOf w := rfl
@[simp] theorem record_raw (f : Family) (w : Word) (u : UsesMask) (b : Bool) : (record f w u b).raw = w := rfl
@[simp] theorem record_uses (f : Family) (w : Word) (u : UsesMask) (b : Bool) : (record f w u b).uses = u := rfl
@[simp] theorem record_unknown (f : Family) (w : Word) (u : UsesMask) (b : Bool) : (record f w u b).unknown = b := rfl

end Sys2Proof.Machine
end

