-- ==== Sys2Proof/Laws/Ops.lean ====
section
/-! SUPPORT. For each shared operation, what it can do, said once. -/

namespace Sys2Proof.Machine

/-- When the driver forms an opcode, and which (R30). -/
theorem nextOpcode_eq_some {s : State} {w : Word} : nextOpcode s = some w ↔
    ∃ a b, Memory.read s.rom s.offset = some a ∧ Memory.read s.rom (s.offset + 1) = some b ∧ w = assemble a b := by
  unfold nextOpcode
  cases ha : Memory.read s.rom s.offset <;> cases hb : Memory.read s.rom (s.offset + 1) <;> simp [eq_comm]

/-- When it forms none: one of the two bytes is missing (R33). -/
theorem nextOpcode_eq_none {s : State} : nextOpcode s = none ↔
    Memory.read s.rom s.offset = none ∨ Memory.read s.rom (s.offset + 1) = none := by
  unfold nextOpcode
  cases ha : Memory.read s.rom s.offset <;> cases hb : Memory.read s.rom (s.offset + 1) <;> simp

/-- The driver takes a record exactly from a next state, and changes nothing but its list (R117). -/
theorem takeRecord_eq_next {o : Host.Outcome State Fault Refusal} {u : State} : takeRecord o = .next u ↔
    ∃ t, o = .next t ∧ u = { t with records := t.records ++ [t.out] } := by
  cases o <;> simp [takeRecord, eq_comm]

@[simp] theorem takeRecord_next (t : State) :
    takeRecord (.next t) = .next { t with records := t.records ++ [t.out] } := rfl

@[simp] theorem endOfRun_eq (s : State) : endOfRun s = .next s := rfl

/-- The two ways a step goes. -/
theorem step_of_some {s : State} {w : Word} (h : nextOpcode s = some w) :
    step s = takeRecord (exec (decodeInstr w) (present w s)) := by
  unfold step
  rw [h]
  rfl

theorem step_of_none {s : State} (h : nextOpcode s = none) : step s = .next s := by
  unfold step
  rw [h]
  rfl

/-- The bytes read after a word is placed for the next fetch. -/
theorem read_placeNextOpcode (w : Word) (s : State) (a : Nat) : Memory.read (placeNextOpcode w s).rom a =
    if a = s.offset + 1 then some (secondByte w) else if a = s.offset then some (firstByte w) else Memory.read s.rom a := by
  rw [placeNextOpcode_rom]
  split
  · subst a
    exact Memory.read_write_same _ _ _
  · rename_i h1
    rw [Memory.read_write_other _ _ _ _ h1]
    split
    · subst a
      exact Memory.read_write_same _ _ _
    · rename_i h2
      exact Memory.read_write_other _ _ _ _ h2

end Sys2Proof.Machine
end

