-- ==== Sys2Proof/Laws/PerInstr.lean ====
section
/-! SUPPORT. EncodeLayout: the encoder (match or-ed with the placed operands, R72) gives, constructor by constructor, the layout
that the `encoding` column of R54 draws. -/

namespace Sys2Proof.Laws

open Sys2Proof Sys2Proof.Machine

/-- The bits of an instruction as the `encoding` column draws them (R54). -/
def layout (i : Instr) : Word :=
  match i with
  | .clearScreen => 0x00E0#16
  | .ret => 0x00EE#16
  | .callMachineRoutine nnn => 0x0#4 ++ nnn
  | .jump nnn => 0x1#4 ++ nnn
  | .callSubroutine nnn => 0x2#4 ++ nnn
  | .skipEqualImmediate x nn => 0x3#4 ++ x ++ nn
  | .skipNotEqualImmediate x nn => 0x4#4 ++ x ++ nn
  | .skipEqualRegister x y => 0x5#4 ++ x ++ y ++ 0x0#4
  | .setImmediate x nn => 0x6#4 ++ x ++ nn
  | .addImmediate x nn => 0x7#4 ++ x ++ nn
  | .assign x y => 0x8#4 ++ x ++ y ++ 0x0#4
  | .or x y => 0x8#4 ++ x ++ y ++ 0x1#4
  | .and x y => 0x8#4 ++ x ++ y ++ 0x2#4
  | .xor x y => 0x8#4 ++ x ++ y ++ 0x3#4
  | .addReg x y => 0x8#4 ++ x ++ y ++ 0x4#4
  | .subReg x y => 0x8#4 ++ x ++ y ++ 0x5#4
  | .shiftRight x y => 0x8#4 ++ x ++ y ++ 0x6#4
  | .subReverse x y => 0x8#4 ++ x ++ y ++ 0x7#4
  | .shiftLeft x y => 0x8#4 ++ x ++ y ++ 0xE#4
  | .skipNotEqualRegister x y => 0x9#4 ++ x ++ y ++ 0x0#4
  | .setIndex nnn => 0xA#4 ++ nnn
  | .jumpAddOffset nnn => 0xB#4 ++ nnn
  | .random x nn => 0xC#4 ++ x ++ nn
  | .draw x y n => 0xD#4 ++ x ++ y ++ n
  | .skipIfKeyPressed x => 0xE#4 ++ x ++ 0x9E#8
  | .skipIfKeyNotPressed x => 0xE#4 ++ x ++ 0xA1#8
  | .getDelayTimer x => 0xF#4 ++ x ++ 0x07#8
  | .waitKey x => 0xF#4 ++ x ++ 0x0A#8
  | .setDelayTimer x => 0xF#4 ++ x ++ 0x15#8
  | .setSoundTimer x => 0xF#4 ++ x ++ 0x18#8
  | .addIndex x => 0xF#4 ++ x ++ 0x1E#8
  | .setIndexToSpriteAddr x => 0xF#4 ++ x ++ 0x29#8
  | .storeBCD x => 0xF#4 ++ x ++ 0x33#8
  | .dumpRegisters x => 0xF#4 ++ x ++ 0x55#8
  | .loadRegisters x => 0xF#4 ++ x ++ 0x65#8
  | .unknown raw => raw

/-- A row's fixed bits, or-ed with the operands of shape `NNN`, are the fields side by side. -/
theorem or_nnn (t : Nibble) (nnn : Addr) {m : Word} (hm : m = t ++ 0#12) : m ||| placeNNN nnn = t ++ nnn := by
  subst hm
  unfold placeNNN
  apply BitVec.eq_of_getLsbD_eq
  intro i hi
  simp only [BitVec.getLsbD_append, BitVec.getLsbD_or, BitVec.getLsbD_setWidth]
  interval_cases i <;> simp

/-- A row's fixed bits, or-ed with the operands of shape `XNN`, are the fields side by side. -/
theorem or_xnn (t x : Nibble) (nn : Byte) {m : Word} (hm : m = t ++ 0#12) : m ||| placeX x ||| placeNN nn = t ++ x ++ nn := by
  subst hm
  unfold placeX placeNN
  apply BitVec.eq_of_getLsbD_eq
  intro i hi
  simp only [BitVec.getLsbD_append, BitVec.getLsbD_or, BitVec.getLsbD_shiftLeft, BitVec.getLsbD_setWidth]
  interval_cases i <;> simp

/-- A row's fixed bits, or-ed with the operands of shape `XY`, are the fields side by side. -/
theorem or_xy (t x y n : Nibble) {m : Word} (hm : m = t ++ 0#8 ++ n) : m ||| placeX x ||| placeY y = t ++ x ++ y ++ n := by
  subst hm
  unfold placeX placeY
  apply BitVec.eq_of_getLsbD_eq
  intro i hi
  simp only [BitVec.getLsbD_append, BitVec.getLsbD_or, BitVec.getLsbD_shiftLeft, BitVec.getLsbD_setWidth]
  interval_cases i <;> simp

/-- A row's fixed bits, or-ed with the operands of shape `XYN`, are the fields side by side. -/
theorem or_xyn (t x y n : Nibble) {m : Word} (hm : m = t ++ 0#12) : m ||| placeX x ||| placeY y ||| placeN n = t ++ x ++ y ++ n := by
  subst hm
  unfold placeX placeY placeN
  apply BitVec.eq_of_getLsbD_eq
  intro i hi
  simp only [BitVec.getLsbD_append, BitVec.getLsbD_or, BitVec.getLsbD_shiftLeft, BitVec.getLsbD_setWidth]
  interval_cases i <;> simp

/-- A row's fixed bits, or-ed with the operands of shape `X`, are the fields side by side. -/
theorem or_x (t x : Nibble) (nn : Byte) {m : Word} (hm : m = t ++ 0#4 ++ nn) : m ||| placeX x = t ++ x ++ nn := by
  subst hm
  unfold placeX
  apply BitVec.eq_of_getLsbD_eq
  intro i hi
  simp only [BitVec.getLsbD_append, BitVec.getLsbD_or, BitVec.getLsbD_shiftLeft, BitVec.getLsbD_setWidth]
  interval_cases i <;> simp

end Sys2Proof.Laws

open Sys2Proof Sys2Proof.Machine Sys2Proof.Laws

/-- The encoder agrees with the drawn layout. -/
def Sys2Proof.Laws.EncodeLayout.Statement (i : Instr) : Prop := encode i = layout i

theorem Sys2Proof.Laws.EncodeLayout.clearScreen :
    Sys2Proof.Laws.EncodeLayout.Statement (.clearScreen) := rfl

theorem Sys2Proof.Laws.EncodeLayout.ret :
    Sys2Proof.Laws.EncodeLayout.Statement (.ret) := rfl

theorem Sys2Proof.Laws.EncodeLayout.callMachineRoutine (nnn : Addr) :
    Sys2Proof.Laws.EncodeLayout.Statement (.callMachineRoutine nnn) := or_nnn 0x0#4 nnn rfl

theorem Sys2Proof.Laws.EncodeLayout.jump (nnn : Addr) :
    Sys2Proof.Laws.EncodeLayout.Statement (.jump nnn) := or_nnn 0x1#4 nnn rfl

theorem Sys2Proof.Laws.EncodeLayout.callSubroutine (nnn : Addr) :
    Sys2Proof.Laws.EncodeLayout.Statement (.callSubroutine nnn) := or_nnn 0x2#4 nnn rfl

theorem Sys2Proof.Laws.EncodeLayout.skipEqualImmediate (x : Nibble) (nn : Byte) :
    Sys2Proof.Laws.EncodeLayout.Statement (.skipEqualImmediate x nn) := or_xnn 0x3#4 x nn rfl

theorem Sys2Proof.Laws.EncodeLayout.skipNotEqualImmediate (x : Nibble) (nn : Byte) :
    Sys2Proof.Laws.EncodeLayout.Statement (.skipNotEqualImmediate x nn) := or_xnn 0x4#4 x nn rfl

theorem Sys2Proof.Laws.EncodeLayout.skipEqualRegister (x : Nibble) (y : Nibble) :
    Sys2Proof.Laws.EncodeLayout.Statement (.skipEqualRegister x y) := or_xy 0x5#4 x y 0x0#4 rfl

theorem Sys2Proof.Laws.EncodeLayout.setImmediate (x : Nibble) (nn : Byte) :
    Sys2Proof.Laws.EncodeLayout.Statement (.setImmediate x nn) := or_xnn 0x6#4 x nn rfl

theorem Sys2Proof.Laws.EncodeLayout.addImmediate (x : Nibble) (nn : Byte) :
    Sys2Proof.Laws.EncodeLayout.Statement (.addImmediate x nn) := or_xnn 0x7#4 x nn rfl

theorem Sys2Proof.Laws.EncodeLayout.assign (x : Nibble) (y : Nibble) :
    Sys2Proof.Laws.EncodeLayout.Statement (.assign x y) := or_xy 0x8#4 x y 0x0#4 rfl

theorem Sys2Proof.Laws.EncodeLayout.or (x : Nibble) (y : Nibble) :
    Sys2Proof.Laws.EncodeLayout.Statement (.or x y) := or_xy 0x8#4 x y 0x1#4 rfl

theorem Sys2Proof.Laws.EncodeLayout.and (x : Nibble) (y : Nibble) :
    Sys2Proof.Laws.EncodeLayout.Statement (.and x y) := or_xy 0x8#4 x y 0x2#4 rfl

theorem Sys2Proof.Laws.EncodeLayout.xor (x : Nibble) (y : Nibble) :
    Sys2Proof.Laws.EncodeLayout.Statement (.xor x y) := or_xy 0x8#4 x y 0x3#4 rfl

theorem Sys2Proof.Laws.EncodeLayout.addReg (x : Nibble) (y : Nibble) :
    Sys2Proof.Laws.EncodeLayout.Statement (.addReg x y) := or_xy 0x8#4 x y 0x4#4 rfl

theorem Sys2Proof.Laws.EncodeLayout.subReg (x : Nibble) (y : Nibble) :
    Sys2Proof.Laws.EncodeLayout.Statement (.subReg x y) := or_xy 0x8#4 x y 0x5#4 rfl

theorem Sys2Proof.Laws.EncodeLayout.shiftRight (x : Nibble) (y : Nibble) :
    Sys2Proof.Laws.EncodeLayout.Statement (.shiftRight x y) := or_xy 0x8#4 x y 0x6#4 rfl

theorem Sys2Proof.Laws.EncodeLayout.subReverse (x : Nibble) (y : Nibble) :
    Sys2Proof.Laws.EncodeLayout.Statement (.subReverse x y) := or_xy 0x8#4 x y 0x7#4 rfl

theorem Sys2Proof.Laws.EncodeLayout.shiftLeft (x : Nibble) (y : Nibble) :
    Sys2Proof.Laws.EncodeLayout.Statement (.shiftLeft x y) := or_xy 0x8#4 x y 0xE#4 rfl

theorem Sys2Proof.Laws.EncodeLayout.skipNotEqualRegister (x : Nibble) (y : Nibble) :
    Sys2Proof.Laws.EncodeLayout.Statement (.skipNotEqualRegister x y) := or_xy 0x9#4 x y 0x0#4 rfl

theorem Sys2Proof.Laws.EncodeLayout.setIndex (nnn : Addr) :
    Sys2Proof.Laws.EncodeLayout.Statement (.setIndex nnn) := or_nnn 0xA#4 nnn rfl

theorem Sys2Proof.Laws.EncodeLayout.jumpAddOffset (nnn : Addr) :
    Sys2Proof.Laws.EncodeLayout.Statement (.jumpAddOffset nnn) := or_nnn 0xB#4 nnn rfl

theorem Sys2Proof.Laws.EncodeLayout.random (x : Nibble) (nn : Byte) :
    Sys2Proof.Laws.EncodeLayout.Statement (.random x nn) := or_xnn 0xC#4 x nn rfl

theorem Sys2Proof.Laws.EncodeLayout.draw (x : Nibble) (y : Nibble) (n : Nibble) :
    Sys2Proof.Laws.EncodeLayout.Statement (.draw x y n) := or_xyn 0xD#4 x y n rfl

theorem Sys2Proof.Laws.EncodeLayout.skipIfKeyPressed (x : Nibble) :
    Sys2Proof.Laws.EncodeLayout.Statement (.skipIfKeyPressed x) := or_x 0xE#4 x 0x9E#8 rfl

theorem Sys2Proof.Laws.EncodeLayout.skipIfKeyNotPressed (x : Nibble) :
    Sys2Proof.Laws.EncodeLayout.Statement (.skipIfKeyNotPressed x) := or_x 0xE#4 x 0xA1#8 rfl

theorem Sys2Proof.Laws.EncodeLayout.getDelayTimer (x : Nibble) :
    Sys2Proof.Laws.EncodeLayout.Statement (.getDelayTimer x) := or_x 0xF#4 x 0x07#8 rfl

theorem Sys2Proof.Laws.EncodeLayout.waitKey (x : Nibble) :
    Sys2Proof.Laws.EncodeLayout.Statement (.waitKey x) := or_x 0xF#4 x 0x0A#8 rfl

theorem Sys2Proof.Laws.EncodeLayout.setDelayTimer (x : Nibble) :
    Sys2Proof.Laws.EncodeLayout.Statement (.setDelayTimer x) := or_x 0xF#4 x 0x15#8 rfl

theorem Sys2Proof.Laws.EncodeLayout.setSoundTimer (x : Nibble) :
    Sys2Proof.Laws.EncodeLayout.Statement (.setSoundTimer x) := or_x 0xF#4 x 0x18#8 rfl

theorem Sys2Proof.Laws.EncodeLayout.addIndex (x : Nibble) :
    Sys2Proof.Laws.EncodeLayout.Statement (.addIndex x) := or_x 0xF#4 x 0x1E#8 rfl

theorem Sys2Proof.Laws.EncodeLayout.setIndexToSpriteAddr (x : Nibble) :
    Sys2Proof.Laws.EncodeLayout.Statement (.setIndexToSpriteAddr x) := or_x 0xF#4 x 0x29#8 rfl

theorem Sys2Proof.Laws.EncodeLayout.storeBCD (x : Nibble) :
    Sys2Proof.Laws.EncodeLayout.Statement (.storeBCD x) := or_x 0xF#4 x 0x33#8 rfl

theorem Sys2Proof.Laws.EncodeLayout.dumpRegisters (x : Nibble) :
    Sys2Proof.Laws.EncodeLayout.Statement (.dumpRegisters x) := or_x 0xF#4 x 0x55#8 rfl

theorem Sys2Proof.Laws.EncodeLayout.loadRegisters (x : Nibble) :
    Sys2Proof.Laws.EncodeLayout.Statement (.loadRegisters x) := or_x 0xF#4 x 0x65#8 rfl

theorem Sys2Proof.Laws.EncodeLayout.unknown (raw : Word) :
    Sys2Proof.Laws.EncodeLayout.Statement (.unknown raw) := rfl
end

