-- ==== Sys2Proof/Laws/Table.lean ====
section
/-! SUPPORT. What it says that a row of the opcode table claims a word, for the 35 defined rows and for the fallback row, and how
many words match a mask and value. -/

namespace Sys2Proof

/-- No defined row is a fallback (R54). -/
theorem fallback_of_mem_definedRows {r : OpcodeRow} (h : r ∈ definedRows) : r.fallback = false := by
  revert r
  decide

/-- A row of the table that is no fallback is one of the 35 defined rows (R54). -/
theorem mem_definedRows {r : OpcodeRow} (h : r ∈ opcodeTable) (hf : r.fallback = false) : r ∈ definedRows := by
  revert r
  decide

/-- A defined row claims a word exactly if it matches it: `fallback` has no part in it (R50, R54). -/
theorem claims_iff_matches {r : OpcodeRow} (h : r ∈ definedRows) (w : Word) : r.Claims w ↔ r.Matches w := by
  simp [OpcodeRow.Claims, fallback_of_mem_definedRows h]

/-- The fallback row claims a word exactly if no defined row matches it (R54, R115). -/
theorem rowUnknown_claims (w : Word) : rowUnknown.Claims w ↔ ∀ r ∈ definedRows, ¬ r.Matches w := by
  have hm : rowUnknown.Matches w := by simp [OpcodeRow.Matches, rowUnknown]
  constructor
  · intro h r hr
    exact h.2 rfl r (List.mem_append_left _ hr) (fallback_of_mem_definedRows hr)
  · exact fun h => ⟨hm, fun _ r hr hf => h r (mem_definedRows hr hf)⟩

/-- What is counted below `2 n` is counted among the even and the odd numbers. -/
theorem length_filter_range_double (p : Nat → Bool) (n : Nat) : ((List.range (2 * n)).filter p).length =
    ((List.range n).filter (fun j => p (2 * j))).length + ((List.range n).filter (fun j => p (2 * j + 1))).length := by
  induction n with
  | zero => rfl
  | succ n ih =>
    rw [show 2 * (n + 1) = 2 * n + 1 + 1 by ring, List.range_succ, List.range_succ, List.range_succ]
    cases h0 : p (2 * n) <;> cases h1 : p (2 * n + 1) <;> simp [h0, h1, ih] <;> omega

/-- How many numbers of `k` bits have the value `v` at the mask `m`, bit by bit from the lowest. -/
def hits (m v k : Nat) : Nat :=
  match k with
  | 0 => if v = 0 then 1 else 0
  | k + 1 => (if v % 2 = 0 then hits (m / 2) (v / 2) k else 0) + (if m % 2 = v % 2 then hits (m / 2) (v / 2) k else 0)

/-- An even number has the value `v` at the mask `m`. -/
theorem land_even (j m v : Nat) : 2 * j &&& m = v ↔ v % 2 = 0 ∧ j &&& (m / 2) = v / 2 := by
  have h1 : (2 * j &&& m) / 2 = j &&& m / 2 := by rw [Nat.and_div_two]; congr 1; omega
  have h2 : (2 * j &&& m) % 2 = 0 := by have := Nat.and_mod_two_pow (a := 2 * j) (b := m) (n := 1); simpa using this
  constructor
  · rintro rfl; exact ⟨h2, h1.symm⟩
  · rintro ⟨a, b⟩; omega

/-- An odd number has the value `v` at the mask `m`. -/
theorem land_odd (j m v : Nat) : 2 * j + 1 &&& m = v ↔ m % 2 = v % 2 ∧ j &&& (m / 2) = v / 2 := by
  have h1 : (2 * j + 1 &&& m) / 2 = j &&& m / 2 := by rw [Nat.and_div_two]; congr 1; omega
  have h2 : (2 * j + 1 &&& m) % 2 = m % 2 := by
    have := Nat.and_mod_two_pow (a := 2 * j + 1) (b := m) (n := 1)
    rw [pow_one, show (2 * j + 1) % 2 = 1 by omega, Nat.one_and_eq_mod_two] at this
    simpa using this
  constructor
  · rintro rfl; exact ⟨h2.symm, h1.symm⟩
  · rintro ⟨a, b⟩; omega

/-- `hits` counts what it says. -/
theorem length_filter_mask (m v k : Nat) :
    ((List.range (2 ^ k)).filter (fun j => decide (j &&& m = v))).length = hits m v k := by
  induction k generalizing m v with
  | zero => by_cases h : v = 0 <;> simp [hits, h, eq_comm]
  | succ k ih =>
    rw [pow_succ', length_filter_range_double, hits, ← ih]
    simp only [land_even, land_odd]
    generalize m % 2 = a
    generalize v % 2 = b
    by_cases h : b = 0
    · subst h
      by_cases h' : a = 0 <;> simp [h']
    · by_cases h' : a = b <;> simp [h, h']

/-- The number of words with the bits `value` at `mask`. -/
theorem length_filter_matches (mask value : Word) :
    ((List.range 65536).filter (fun v => decide (BitVec.ofNat 16 v &&& mask = value))).length =
      hits mask.toNat value.toNat 16 := by
  have h : ∀ v ∈ List.range 65536, decide (BitVec.ofNat 16 v &&& mask = value) = decide (v &&& mask.toNat = value.toNat) := by
    intro v hv
    simp [← BitVec.toNat_inj, Nat.mod_eq_of_lt (List.mem_range.1 hv)]
  rw [List.filter_congr h]
  exact length_filter_mask mask.toNat value.toNat 16

end Sys2Proof
end

