-- ==== Sys2Proof/Tests/Slice0.lean ====
section
/-! SUPPORT. Tests: ill-formed terms refused; a word of every row decoded, written out bit by bit from its encoding (R80 to R115);
the display string of every row (R123, R125); single steps; the byte-assembly vectors; and, for every statement with
hypotheses, concrete values that meet them. Expected values are those of the rules' examples and of 95_test_vectors.md. -/

namespace Sys2Proof.Tests

open Sys2Proof Sys2Proof.Machine

/-- The state after reset with a small ROM placed. -/
def romState (bytes : List Byte) : State := loadRom bytes State.reset

/-- The next state of an outcome, if it is one. -/
def next? (o : Host.Outcome State Fault Refusal) : Option State :=
  match o with
  | .next t => some t
  | _ => none

/-! WellFormed refuses: each check with an ill-formed term. -/

theorem test_wf_sys_0E0 : (Instr.callMachineRoutine 0x0E0#12).wellFormed = false := by decide
theorem test_wf_sys_0EE : (Instr.callMachineRoutine 0x0EE#12).wellFormed = false := by decide
theorem test_wf_unknown_assigned : (Instr.unknown 0x5120#16).wellFormed = false := by decide
theorem test_wf_unknown_unassigned : (Instr.unknown 0x5121#16).wellFormed = true := by decide

/-! Decoding: one word of each row, bit by bit (the Example of each rule R80 to R115). -/

theorem test_decode_clearScreen : decodeInstr 0b0000000011100000#16 = .clearScreen := by decide
theorem test_decode_ret : decodeInstr 0b0000000011101110#16 = .ret := by decide
theorem test_decode_callMachineRoutine : decodeInstr 0b0000000100100011#16 = .callMachineRoutine 0x123#12 := by decide
theorem test_decode_jump : decodeInstr 0b0001001000110100#16 = .jump 0x234#12 := by decide
theorem test_decode_callSubroutine : decodeInstr 0b0010101010111100#16 = .callSubroutine 0xABC#12 := by decide
theorem test_decode_skipEqualImmediate : decodeInstr 0b0011101000000000#16 = .skipEqualImmediate 0xA#4 0x00#8 := by decide
theorem test_decode_skipNotEqualImmediate : decodeInstr 0b0100111101111111#16 = .skipNotEqualImmediate 0xF#4 0x7F#8 := by decide
theorem test_decode_skipEqualRegister : decodeInstr 0b0101101010110000#16 = .skipEqualRegister 0xA#4 0xB#4 := by decide
theorem test_decode_setImmediate : decodeInstr 0b0110101000111111#16 = .setImmediate 0xA#4 0x3F#8 := by decide
theorem test_decode_addImmediate : decodeInstr 0b0111001100000001#16 = .addImmediate 0x3#4 0x01#8 := by decide
theorem test_decode_assign : decodeInstr 0b1000000100100000#16 = .assign 0x1#4 0x2#4 := by decide
theorem test_decode_or : decodeInstr 0b1000101010110001#16 = .or 0xA#4 0xB#4 := by decide
theorem test_decode_and : decodeInstr 0b1000111111110010#16 = .and 0xF#4 0xF#4 := by decide
theorem test_decode_xor : decodeInstr 0b1000001101000011#16 = .xor 0x3#4 0x4#4 := by decide
theorem test_decode_addReg : decodeInstr 0b1000000000010100#16 = .addReg 0x0#4 0x1#4 := by decide
theorem test_decode_subReg : decodeInstr 0b1000000100100101#16 = .subReg 0x1#4 0x2#4 := by decide
theorem test_decode_shiftRight : decodeInstr 0b1000000100100110#16 = .shiftRight 0x1#4 0x2#4 := by decide
theorem test_decode_subReverse : decodeInstr 0b1000000100100111#16 = .subReverse 0x1#4 0x2#4 := by decide
theorem test_decode_shiftLeft : decodeInstr 0b1000000100101110#16 = .shiftLeft 0x1#4 0x2#4 := by decide
theorem test_decode_skipNotEqualRegister : decodeInstr 0b1001000100100000#16 = .skipNotEqualRegister 0x1#4 0x2#4 := by decide
theorem test_decode_setIndex : decodeInstr 0b1010001011110000#16 = .setIndex 0x2F0#12 := by decide
theorem test_decode_jumpAddOffset : decodeInstr 0b1011001100000000#16 = .jumpAddOffset 0x300#12 := by decide
theorem test_decode_random : decodeInstr 0b1100000100001111#16 = .random 0x1#4 0x0F#8 := by decide
theorem test_decode_draw : decodeInstr 0b1101000100100101#16 = .draw 0x1#4 0x2#4 0x5#4 := by decide
theorem test_decode_skipIfKeyPressed : decodeInstr 0b1110001110011110#16 = .skipIfKeyPressed 0x3#4 := by decide
theorem test_decode_skipIfKeyNotPressed : decodeInstr 0b1110101110100001#16 = .skipIfKeyNotPressed 0xB#4 := by decide
theorem test_decode_getDelayTimer : decodeInstr 0b1111001100000111#16 = .getDelayTimer 0x3#4 := by decide
theorem test_decode_waitKey : decodeInstr 0b1111010100001010#16 = .waitKey 0x5#4 := by decide
theorem test_decode_setDelayTimer : decodeInstr 0b1111001100010101#16 = .setDelayTimer 0x3#4 := by decide
theorem test_decode_setSoundTimer : decodeInstr 0b1111000100011000#16 = .setSoundTimer 0x1#4 := by decide
theorem test_decode_addIndex : decodeInstr 0b1111001000011110#16 = .addIndex 0x2#4 := by decide
theorem test_decode_setIndexToSpriteAddr : decodeInstr 0b1111101000101001#16 = .setIndexToSpriteAddr 0xA#4 := by decide
theorem test_decode_storeBCD : decodeInstr 0b1111010000110011#16 = .storeBCD 0x4#4 := by decide
theorem test_decode_dumpRegisters : decodeInstr 0b1111111101010101#16 = .dumpRegisters 0xF#4 := by decide
theorem test_decode_loadRegisters : decodeInstr 0b1111011101100101#16 = .loadRegisters 0x7#4 := by decide
theorem test_decode_unknown : decodeInstr 0b0101000100100001#16 = .unknown 0x5121#16 := by decide

/-! Display strings: the column "rendered" of R123, and R125. -/

theorem test_render_clearScreen : render (decode 0x00E0#16) = "clear" := by decide
theorem test_render_ret : render (decode 0x00EE#16) = "return" := by decide
theorem test_render_callMachineRoutine : render (decode 0x0123#16) = "sys 291" := by decide
theorem test_render_jump : render (decode 0x1234#16) = "jump 564" := by decide
theorem test_render_callSubroutine : render (decode 0x2ABC#16) = "call 2748" := by decide
theorem test_render_skipEqualImmediate : render (decode 0x3A00#16) = "skip if V10 == 0" := by decide
theorem test_render_skipNotEqualImmediate : render (decode 0x4F7F#16) = "skip if V15 != 127" := by decide
theorem test_render_skipEqualRegister : render (decode 0x5AB0#16) = "skip if V10 == V11" := by decide
theorem test_render_setImmediate : render (decode 0x6A3F#16) = "V10 = 63" := by decide
theorem test_render_addImmediate : render (decode 0x7301#16) = "V3 += 1" := by decide
theorem test_render_assign : render (decode 0x8120#16) = "V1 = V2" := by decide
theorem test_render_or : render (decode 0x8AB1#16) = "V10 |= V11" := by decide
theorem test_render_and : render (decode 0x8FF2#16) = "V15 &= V15" := by decide
theorem test_render_xor : render (decode 0x8343#16) = "V3 ^= V4" := by decide
theorem test_render_addReg : render (decode 0x8014#16) = "V0 += V1" := by decide
theorem test_render_subReg : render (decode 0x8125#16) = "V1 -= V2" := by decide
theorem test_render_shiftRight : render (decode 0x8126#16) = "V1 = V2 >> 1" := by decide
theorem test_render_subReverse : render (decode 0x8127#16) = "V1 = V2 - V1" := by decide
theorem test_render_shiftLeft : render (decode 0x812E#16) = "V1 = V2 << 1" := by decide
theorem test_render_skipNotEqualRegister : render (decode 0x9120#16) = "skip if V1 != V2" := by decide
theorem test_render_setIndex : render (decode 0xA2F0#16) = "I = 752" := by decide
theorem test_render_jumpAddOffset : render (decode 0xB300#16) = "jump V0 + 768" := by decide
theorem test_render_random : render (decode 0xC10F#16) = "V1 = rand & 15" := by decide
theorem test_render_draw : render (decode 0xD125#16) = "draw V1, V2, 5" := by decide
theorem test_render_skipIfKeyPressed : render (decode 0xE39E#16) = "skip if key V3" := by decide
theorem test_render_skipIfKeyNotPressed : render (decode 0xEBA1#16) = "skip if not key V11" := by decide
theorem test_render_getDelayTimer : render (decode 0xF307#16) = "V3 = delay" := by decide
theorem test_render_waitKey : render (decode 0xF50A#16) = "V5 = key" := by decide
theorem test_render_setDelayTimer : render (decode 0xF315#16) = "delay = V3" := by decide
theorem test_render_setSoundTimer : render (decode 0xF118#16) = "sound = V1" := by decide
theorem test_render_addIndex : render (decode 0xF21E#16) = "I += V2" := by decide
theorem test_render_setIndexToSpriteAddr : render (decode 0xFA29#16) = "I = sprite V10" := by decide
theorem test_render_storeBCD : render (decode 0xF433#16) = "bcd V4" := by decide
theorem test_render_dumpRegisters : render (decode 0xFF55#16) = "dump V0..V15" := by decide
theorem test_render_loadRegisters : render (decode 0xF765#16) = "load V0..V7" := by decide
theorem test_render_unknown : render (decode 0x5121#16) = "UNKNOWN 0x5121" := by decide

/-! Byte assembly and the trailing byte (95_test_vectors.md section 4), lines (R128). -/

theorem test_opcodes_pairs : opcodesOf [0x00#8, 0xE0#8, 0x00#8, 0xEE#8] = [0x00E0#16, 0x00EE#16] := by decide
theorem test_opcodes_trailing : opcodesOf [0x00#8, 0xE0#8, 0x12#8] = [0x00E0#16] := by decide
theorem test_opcodes_one_byte : opcodesOf [0x12#8] = [] := by decide
theorem test_decode_bytes_trailing : (decodeBytes [0x12#8]).toOption = none := by decide
theorem test_line : line 0x6A3F#16 = "6a3f: V10 = 63" := by decide
theorem test_line_unknown : line 0x8ABF#16 = "8abf: UNKNOWN 0x8abf" := by decide
theorem test_table_word : decodeTableWord 16 0xA2F0 = some (.setIndex 0x2F0#12) := by decide

/-! Single steps. -/

theorem test_step_out : (next? (step (romState [0xD1#8, 0x25#8]))).map State.out =
    some { family := .draw, x := 1#4, y := 2#4, n := 5#4, nn := 0x25#8, nnn := 0x125#12, raw := 0xD125#16, uses := 7#5,
           unknown := false } := by decide
theorem test_step_unknown_goes_on : (next? (step (romState [0x51#8, 0x21#8]))).map (fun t => (t.out.unknown, t.offset)) =
    some (true, 2) := by decide
theorem test_step_jump_is_not_taken : (next? (step (romState [0x12#8, 0x08#8]))).map State.offset = some 2 := by decide
theorem test_step_trailing_byte : (next? (step (romState [0x12#8]))).map State.records = some [] := by decide
theorem test_step_empty_rom : next? (step State.reset) = some State.reset := by decide
theorem test_step_placed : (next? (step (State.reset.withFetchWord 16 0xF75B))).map (fun t => (t.out.family, t.opcode)) =
    some (.unknown, 0xF75B#16) := by decide
theorem test_step_listing : (next? (step (romState [0x8A#8, 0xB1#8]))).map listing = some ["8ab1: V10 |= V11"] := by decide

/-! Witnesses: values that meet the hypotheses of the statements, clause by clause. -/

/-- OpcodeAssembledBigEndian, StepRunsTheDecodedInstruction. -/
theorem witness_two_bytes : Memory.read (romState [0x6A#8, 0x3F#8]).rom (romState [0x6A#8, 0x3F#8]).offset = some 0x6A#8 ∧
    Memory.read (romState [0x6A#8, 0x3F#8]).rom ((romState [0x6A#8, 0x3F#8]).offset + 1) = some 0x3F#8 ∧
    decodeInstr (0x6A#8 ++ 0x3F#8) = .setImmediate 0xA#4 0x3F#8 := by decide
/-- TopNibbleSelectsTheBranch: each of the sixteen top nibbles, at the lowest and the highest word under it. -/
theorem witness_top_nibbles : ∀ t : Nibble, topOf (t ++ 0x000#12) = t ∧ topOf (t ++ 0xFFF#12) = t := by decide
/-- TopZeroLooksAtAllTwelveBits: the two special values, and the ends and neighbours of the rest. -/
theorem witness_top_zero : topOf 0x00E0#16 = 0x0#4 ∧ nnnOf 0x00E0#16 = 0x0E0#12 ∧ topOf 0x00EE#16 = 0x0#4 ∧
    nnnOf 0x00EE#16 = 0x0EE#12 ∧ [0x0000#16, 0x00DF#16, 0x00E1#16, 0x00EF#16, 0x01E0#16, 0x0FFF#16].all
      (fun w => topOf w == 0x0#4 && nnnOf w != 0x0E0#12 && nnnOf w != 0x0EE#12) = true := by decide
/-- CompareNibblesNeedLowNibbleZero: both outcomes under each of the two nibbles. -/
theorem witness_compare : topOf 0x5FF0#16 = 0x5#4 ∧ topOf 0x5FF1#16 = 0x5#4 ∧ topOf 0x9000#16 = 0x9#4 ∧
    topOf 0x9001#16 = 0x9#4 := by decide
/-- AluLowNibbleSelects: every low nibble occurs under top nibble 8. -/
theorem witness_alu : ∀ n : Nibble, topOf (0x812#12 ++ n) = 0x8#4 := by decide
/-- KeyLowByteSelects: the two codes and their neighbours. -/
theorem witness_key : [0xE09D#16, 0xE09E#16, 0xE09F#16, 0xE0A0#16, 0xE0A1#16, 0xE0A2#16].all (fun w => topOf w == 0xE#4) = true := by decide
/-- MiscLowByteSelects: every code occurs under top nibble F. -/
theorem witness_misc : [0x07#8, 0x0A#8, 0x15#8, 0x18#8, 0x1E#8, 0x29#8, 0x33#8, 0x55#8, 0x65#8, 0x66#8].all
    (fun nn => topOf (0xF0#8 ++ nn) == 0xF#4) = true := by decide
/-- RowsPartitionTheOpcodeSpace: a word that a defined row claims, and one that none claims. -/
theorem witness_rows : (∃ r ∈ definedRows, r.Claims 0x6A3F#16) ∧ (∀ r ∈ definedRows, ¬ r.Claims 0xFFFF#16) := by decide
/-- FirstMatchTableEqualsTree, RowCountsAreTheWordsClaimed: the fallback row claims a word that no other row matches, and none
that one matches; a row with excepted words does not claim them. -/
theorem witness_fallback : rowUnknown ∈ opcodeTable ∧ rowUnknown.Claims 0xFFFF#16 ∧ ¬ rowUnknown.Claims 0x6A3F#16 ∧
    ¬ rowUnknown.Claims 0x0000#16 ∧ ((opcodeTable.filter (fun r => decide (r.Claims 0x00E0#16))).map OpcodeRow.family) =
      [.clearScreen] := by decide
/-- OnlyTheTwoFullWordsOverlap: two rows match 0x00E0 as bare mask and match, and two match 0x00EE. -/
theorem witness_overlap : (∃ r ∈ definedRows, ∃ q ∈ definedRows, r ≠ q ∧
      0x00E0#16 &&& r.mask = r.value ∧ 0x00E0#16 &&& q.mask = q.value) ∧
    (∃ r ∈ definedRows, ∃ q ∈ definedRows, r ≠ q ∧
      0x00EE#16 &&& r.mask = r.value ∧ 0x00EE#16 &&& q.mask = q.value) := by decide
/-- UnknownIsExact, EncodeInvertsDecode: a defined row whose family is decoded. -/
theorem witness_defined_row : ∃ r ∈ definedRows, (decode 0xFF65#16).family = r.family := by decide
/-- FamilyLooksAtOneFieldBelowTop: two words that agree where they must, once for each clause. -/
theorem witness_family_field : (topOf 0x8124#16 = topOf 0x8AB4#16 ∧ nOf 0x8124#16 = nOf 0x8AB4#16) ∧
    (topOf 0xE19E#16 = topOf 0xEF9E#16 ∧ nnOf 0xE19E#16 = nnOf 0xEF9E#16) ∧
    (topOf 0x00E0#16 = topOf 0x00E0#16 ∧ nnnOf 0x00E0#16 = nnnOf 0x00E0#16) ∧ topOf 0x1000#16 = topOf 0x1FFF#16 := by decide
/-- TopZeroFamiliesDriveTheirRecords: nnn at the ends of its range and beside the two excepted values. -/
theorem witness_sys_operand : [0x000#12, 0x0DF#12, 0x0E1#12, 0x0ED#12, 0x0EF#12, 0xFFF#12].all
    (fun nnn => nnn != 0x0E0#12 && nnn != 0x0EE#12) = true := by decide
/-- UnknownDrivesItsRecord: unassigned words of each branch, the lowest and the highest among them. -/
theorem witness_unassigned : [0x5001#16, 0x5FFF#16, 0x8008#16, 0x812D#16, 0x812F#16, 0x9001#16, 0xE09F#16, 0xF066#16,
    0xFFFF#16].all unassigned = true := by decide
/-- ExecAgreesWithTheTree, DecodeInvertsEncode: well-formed terms. -/
theorem witness_well_formed : (Instr.draw 0x1#4 0x2#4 0x0#4).wellFormed = true ∧
    (Instr.callMachineRoutine 0x000#12).wellFormed = true ∧ (Instr.unknown 0xFFFF#16).wellFormed = true := by decide
/-- StepGivesDecodeOfTheOpcode, OutputsForgetThePast: two states with different pasts and the same next opcode. -/
theorem witness_next_opcode : nextOpcode (romState [0x00#8, 0xE0#8]) = some 0x00E0#16 ∧
    nextOpcode { romState [0x12#8, 0x34#8, 0x00#8, 0xE0#8] with offset := 2, opcode := 0xFFFF#16, out := decode 0xFFFF#16 } =
      some 0x00E0#16 ∧
    (∃ t, step (romState [0x00#8, 0xE0#8]) = .next t) ∧
    (∃ t, step { romState [0x12#8, 0x34#8, 0x00#8, 0xE0#8] with
      offset := 2, opcode := 0xFFFF#16, out := decode 0xFFFF#16 } = .next t) :=
  ⟨by decide, by decide, ⟨_, rfl⟩, ⟨_, rfl⟩⟩
/-- ResultsAreDecodeInAnyOrder: two opcodes in turn, each presented to an instance that shows neither. -/
theorem witness_presented : ∃ (w : Nat → Word) (s t : Nat → State), w 0 ≠ w 1 ∧ (s 0).out ≠ decode (w 0) ∧
    ∀ k, settle { s k with opcode := w k } = .next (t k) :=
  ⟨fun k => if k % 2 = 0 then 0x1234#16 else 0xFFFF#16, fun _ => State.reset,
    fun k => if k % 2 = 0 then { State.reset with opcode := 0x1234#16, out := decode 0x1234#16 }
      else { State.reset with opcode := 0xFFFF#16, out := decode 0xFFFF#16 },
    by decide, by decide, fun k => by
      by_cases h : k % 2 = 0
      · simp only [h, if_true]; rfl
      · simp only [h, if_false]; rfl⟩
/-- StepKeepsTheRom, OutputsAlwaysDecodeTheInput: a state with settled outputs and a ROM in canonical form that steps. -/
theorem witness_settled_step : (romState [0xA2#8, 0xF0#8]).out = decode (romState [0xA2#8, 0xF0#8]).opcode ∧
    Memory.wf (romState [0xA2#8, 0xF0#8]).rom ∧ ∃ t, step (romState [0xA2#8, 0xF0#8]) = .next t :=
  ⟨by decide, by decide, ⟨_, rfl⟩⟩
/-- StepKeepsConsistent, RunEndsAfterTheLastWholeOpcode, PlacedRomIsConsistent, ListingIsTheLinesSoFar: a consistent state before
its last whole opcode, an odd byte after it, and one past it. -/
theorem witness_consistent : (romState [0x00#8, 0xE0#8, 0x12#8]).Consistent ∧
    (∃ t, step (romState [0x00#8, 0xE0#8, 0x12#8]) = .next t) ∧
    ({ romState [0x00#8, 0xE0#8, 0x12#8] with offset := 2, records := [decode 0x00E0#16] } : State).Consistent :=
  ⟨⟨by decide, by decide, by decide, by decide, by decide⟩, ⟨_, rfl⟩, ⟨by decide, by decide, by decide, by decide, by decide⟩⟩
/-- OpcodesAreTheEvenPairs, RunIsTheDisassembly: the last pair of an odd-length ROM, and a number of steps that is enough. -/
theorem witness_pairs : ([0x00#8, 0xE0#8, 0x00#8, 0xEE#8, 0x12#8] : List Byte)[2 * 1]? = some 0x00#8 ∧
    ([0x00#8, 0xE0#8, 0x00#8, 0xEE#8, 0x12#8] : List Byte)[2 * 1 + 1]? = some 0xEE#8 ∧
    ([0x00#8, 0xE0#8, 0x00#8, 0xEE#8, 0x12#8] : List Byte).length / 2 ≤ 2 := by decide
/-- RenderReadsOnlyUsedFields, RenderIsInjective: two different records that are the same instruction and render alike. -/
theorem witness_same_instruction : SameInstruction (decode 0x1234#16) { decode 0x1234#16 with raw := 0xFFFF#16, y := 0x0#4 } ∧
    decode 0x1234#16 ≠ { decode 0x1234#16 with raw := 0xFFFF#16, y := 0x0#4 } ∧
    render (decode 0x1234#16) = render { decode 0x1234#16 with raw := 0xFFFF#16, y := 0x0#4 } := by decide
/-- DecIsTheDecimalNumeral: a numeral that begins with 0. -/
theorem witness_dec_zero : (dec 0).toList.head? = some '0' := by decide
/-- UnknownMarkerIsDistinguishable: a record of each kind. -/
theorem witness_marker : (decode 0x5121#16).family = .unknown ∧ (decode 0x5120#16).family ≠ .unknown := by decide
/-- LinesArePrintableAscii: a character of a string and one of a line. -/
theorem witness_character : 'V' ∈ (render (decode 0x6A3F#16)).toList ∧ ':' ∈ (line 0x6A3F#16).toList := by decide
/-- BytesDecodeInPairs: a list for each clause. -/
theorem witness_bytes : decodeBytes [0x00#8, 0xE0#8, 0x12#8] = .ok (.clearScreen, [0x12#8]) ∧
    ([0x12#8] : List Byte).length = 1 ∧ ([] : List Byte).length = 0 := ⟨rfl, rfl, rfl⟩

end Sys2Proof.Tests
end

section
/-! PROOFS. What an instruction drives onto the outputs, and what one turn of the driver gives. -/

namespace Sys2Proof.Proofs

open Sys2Proof Sys2Proof.Machine Sys2Proof.Laws

/-! An opcode is the layout of the instruction it decodes to (R42, R64): under each top nibble, the fixed bits that the
multiplexers tested and the operands they left are the whole word. -/

theorem top_append_nnn {w : Word} {t : Nibble} (ht : topOf w = t) : t ++ nnnOf w = w := by
  rw [← ht, ← word_eq_top_nnn]

theorem top_append_x_nn {w : Word} {t : Nibble} (ht : topOf w = t) : t ++ xOf w ++ nnOf w = w := by
  rw [← ht, ← word_eq_top_x_nn]

theorem top_append_x_y_n {w : Word} {t : Nibble} (ht : topOf w = t) : t ++ xOf w ++ yOf w ++ nOf w = w := by
  rw [← ht, ← word_eq_nibbles]

theorem top_append_x_code {w : Word} {t : Nibble} {nn : Byte} (ht : topOf w = t) (hnn : nnOf w = nn) :
    t ++ xOf w ++ nn = w := hnn ▸ top_append_x_nn ht

theorem top_append_x_y_code {w : Word} {t n : Nibble} (ht : topOf w = t) (hn : nOf w = n) :
    t ++ xOf w ++ yOf w ++ n = w := hn ▸ top_append_x_y_n ht

theorem layout_instrOf_sub0 {w : Word} (ht : topOf w = 0x0#4) : layout (instrOf (sub0 (nnnOf w)) w) = w := by
  have hw := top_append_nnn ht
  unfold sub0
  split_ifs with h h
  · rw [h] at hw; exact hw
  · rw [h] at hw; exact hw
  · exact hw

theorem layout_instrOf_sub5 {w : Word} (ht : topOf w = 0x5#4) : layout (instrOf (sub5 (nOf w)) w) = w := by
  unfold sub5
  split_ifs with h
  · exact top_append_x_y_code ht h
  · rfl

theorem layout_instrOf_sub8 {w : Word} (ht : topOf w = 0x8#4) : layout (instrOf (sub8 (nOf w)) w) = w := by
  unfold sub8
  split_ifs with h h h h h h h h h
  any_goals exact top_append_x_y_code ht h
  rfl

theorem layout_instrOf_sub9 {w : Word} (ht : topOf w = 0x9#4) : layout (instrOf (sub9 (nOf w)) w) = w := by
  unfold sub9
  split_ifs with h
  · exact top_append_x_y_code ht h
  · rfl

theorem layout_instrOf_subE {w : Word} (ht : topOf w = 0xE#4) : layout (instrOf (subE (nnOf w)) w) = w := by
  unfold subE
  split_ifs with h h
  · exact top_append_x_code ht h
  · exact top_append_x_code ht h
  · rfl

theorem layout_instrOf_subF {w : Word} (ht : topOf w = 0xF#4) : layout (instrOf (subF (nnOf w)) w) = w := by
  unfold subF
  split_ifs with h h h h h h h h h
  any_goals exact top_append_x_code ht h
  rfl

/-- Along the sixteen branches of the level 1 select (R62); `h_k` is the branch of top nibble `k - 1`. -/
@[simp] theorem layout_decodeInstr (w : Word) : layout (decodeInstr w) = w := by
  unfold decodeInstr familyOf
  split
  case h_1 h => exact layout_instrOf_sub0 (BitVec.eq_of_toNat_eq h)
  case h_6 h => exact layout_instrOf_sub5 (BitVec.eq_of_toNat_eq h)
  case h_9 h => exact layout_instrOf_sub8 (BitVec.eq_of_toNat_eq h)
  case h_10 h => exact layout_instrOf_sub9 (BitVec.eq_of_toNat_eq h)
  case h_14 h => exact top_append_x_y_n (BitVec.eq_of_toNat_eq h)
  case h_15 h => exact layout_instrOf_subE (BitVec.eq_of_toNat_eq h)
  case h_16 =>
    have htop : (topOf w).toNat = 15 := by
      have := (topOf w).isLt
      simp only [imp_false] at *
      omega
    exact layout_instrOf_subF (BitVec.eq_of_toNat_eq htop)
  case h_2 h | h_3 h | h_11 h | h_12 h => exact top_append_nnn (BitVec.eq_of_toNat_eq h)
  case h_4 h | h_5 h | h_7 h | h_8 h | h_13 h => exact top_append_x_nn (BitVec.eq_of_toNat_eq h)

/-- What every instruction does (R74): the outputs take the record of its layout, with the helper outputs of its family. -/
theorem exec_instrOf (f : Family) (w : Word) (s : State) : exec (instrOf f w) s =
    .next (drive (record f (layout (instrOf f w)) (usesOf f) (unknownOf f)) s) := by
  cases f <;> rfl

theorem decode_eq_record (w : Word) :
    decode w = record (familyOf w) w (usesOf (familyOf w)) (unknownOf (familyOf w)) := rfl

/-- The meaning of the instruction that an opcode is, against the tree (R64): the outputs take `decode` of the opcode. -/
theorem exec_decodeInstr (w : Word) (s : State) : exec (decodeInstr w) s = .next (drive (decode w) s) := by
  have hlayout : layout (instrOf (familyOf w) w) = w := layout_decodeInstr w
  rw [decodeInstr, exec_instrOf, hlayout, decode_eq_record]

/-- One turn of the driver while a whole opcode is left (R32, R73, R117). -/
theorem step_eq_next_of_some {s : State} {w : Word} (h : nextOpcode s = some w) : step s =
    .next { rom := s.rom, offset := s.offset + 2, opcode := w, out := decode w, records := s.records ++ [decode w] } := by
  rw [step_of_some h, exec_decodeInstr]
  rfl

/-- The two ways a step gives a next state: the run is over and nothing changes, or the driver takes its turn. -/
theorem step_cases {s t : State} (h : step s = .next t) :
    (nextOpcode s = none ∧ t = s) ∨
    ∃ w, nextOpcode s = some w ∧ t =
      { rom := s.rom, offset := s.offset + 2, opcode := w, out := decode w, records := s.records ++ [decode w] } := by
  cases hn : nextOpcode s with
  | none =>
    rw [step_of_none hn] at h
    exact .inl ⟨rfl, (Host.Outcome.next.inj h).symm⟩
  | some w =>
    rw [step_eq_next_of_some hn] at h
    exact .inr ⟨w, rfl, (Host.Outcome.next.inj h).symm⟩

/-- Settles O39: a turn of the driver ends with the outputs settled on the new input, and the end of the run changes
nothing. -/
theorem outputsAlwaysDecodeTheInput : Obligations.OutputsAlwaysDecodeTheInput := by
  refine ⟨rfl, fun s t hs h => ?_⟩
  obtain ⟨-, rfl⟩ | ⟨w, -, rfl⟩ := step_cases h
  · exact hs
  · rfl

end Sys2Proof.Proofs
end

section
/-! PROOFS. An opcode is its two bytes side by side, the byte of the lower offset first (R30). -/

namespace Sys2Proof.Proofs

open Sys2Proof Sys2Proof.Machine Sys2Proof.Laws

/-- The driver's shift and or at 16 bits lose no bit: they put the bytes side by side (R30). -/
theorem assemble_eq_append (a b : Byte) : assemble a b = a ++ b := by
  rw [BitVec.append_def, BitVec.shiftLeftZeroExtend_eq]
  rfl

theorem toNat_assemble (a b : Byte) : (assemble a b).toNat = 256 * a.toNat + b.toNat := by
  rw [assemble_eq_append, BitVec.toNat_append, ← Nat.shiftLeft_add_eq_or_of_lt b.isLt, Nat.shiftLeft_eq, Nat.mul_comm]

@[simp] theorem firstByte_assemble (a b : Byte) : firstByte (assemble a b) = a := by
  rw [assemble_eq_append]
  exact BitVec.extractLsb'_append_eq_left

@[simp] theorem secondByte_assemble (a b : Byte) : secondByte (assemble a b) = b := by
  rw [assemble_eq_append]
  exact BitVec.extractLsb'_append_eq_right

/-- Two bytes left at the driver's offset are the opcode it forms next (R30, R32). -/
theorem nextOpcode_of_reads {s : State} {a b : Byte} (ha : Memory.read s.rom s.offset = some a)
    (hb : Memory.read s.rom (s.offset + 1) = some b) : nextOpcode s = some (a ++ b) :=
  nextOpcode_eq_some.mpr ⟨a, b, ha, hb, (assemble_eq_append a b).symm⟩

/-- Settles O1: the assembled word is the concatenation of its bytes, and a turn of the driver leaves the word it formed on
the opcode port. -/
theorem opcodeAssembledBigEndian : Obligations.OpcodeAssembledBigEndian := by
  refine ⟨fun a b => ⟨assemble_eq_append a b, toNat_assemble a b, firstByte_assemble a b, secondByte_assemble a b⟩,
    fun s a b ha hb => ?_, by decide, by decide⟩
  have hnext : nextOpcode s = some (a ++ b) := nextOpcode_of_reads ha hb
  exact ⟨hnext, _, step_eq_next_of_some hnext, rfl⟩

end Sys2Proof.Proofs
end

section
/-! PROOFS. What the multiplexers of the tree read of a word: the level 1 select on the top nibble, and the six level 2
decoders, each on one field below it (R44 to R49, R62, R63). -/

namespace Sys2Proof.Proofs

open Sys2Proof Sys2Proof.Machine Sys2Proof.Laws

@[simp] theorem decode_family (w : Word) : (decode w).family = familyOf w := rfl

@[simp] theorem toNat_topOf (w : Word) : (topOf w).toNat = w.toNat / 4096 := by
  have hlt := w.isLt
  rw [topOf, BitVec.extractLsb'_toNat, Nat.shiftRight_eq_div_pow]
  omega

@[simp] theorem toNat_nOf (w : Word) : (nOf w).toNat = w.toNat % 16 := BitVec.extractLsb'_toNat 0 4 w

@[simp] theorem toNat_nnOf (w : Word) : (nnOf w).toNat = w.toNat % 256 := BitVec.extractLsb'_toNat 0 8 w

@[simp] theorem toNat_nnnOf (w : Word) : (nnnOf w).toNat = w.toNat % 4096 := BitVec.extractLsb'_toNat 0 12 w

/-! The six nibbles with a second level (R44). -/

theorem familyOf_of_top0 {w : Word} (h : topOf w = 0x0#4) : familyOf w = sub0 (nnnOf w) := by
  simp [familyOf, h]

theorem familyOf_of_top5 {w : Word} (h : topOf w = 0x5#4) : familyOf w = sub5 (nOf w) := by
  simp [familyOf, h]

theorem familyOf_of_top8 {w : Word} (h : topOf w = 0x8#4) : familyOf w = sub8 (nOf w) := by
  simp [familyOf, h]

theorem familyOf_of_top9 {w : Word} (h : topOf w = 0x9#4) : familyOf w = sub9 (nOf w) := by
  simp [familyOf, h]

theorem familyOf_of_topE {w : Word} (h : topOf w = 0xE#4) : familyOf w = subE (nnOf w) := by
  simp [familyOf, h]

theorem familyOf_of_topF {w : Word} (h : topOf w = 0xF#4) : familyOf w = subF (nnOf w) := by
  simp [familyOf, h]

/-- Two words with the same top nibble, and with the same value of the one field that its branch reads, have the same
family (R67). -/
theorem familyOf_congr {w v : Word} (ht : topOf w = topOf v) (h0 : topOf w = 0x0#4 → nnnOf w = nnnOf v)
    (hn : topOf w = 0x5#4 ∨ topOf w = 0x8#4 ∨ topOf w = 0x9#4 → nOf w = nOf v)
    (hnn : topOf w = 0xE#4 ∨ topOf w = 0xF#4 → nnOf w = nnOf v) : familyOf w = familyOf v := by
  generalize htop : topOf w = t at ht h0 hn hnn
  have hlt := t.isLt
  unfold familyOf
  rw [htop, ← ht]
  split
  case h_1 h => rw [h0 (BitVec.eq_of_toNat_eq h)]
  case h_6 h => rw [hn (.inl (BitVec.eq_of_toNat_eq h))]
  case h_9 h => rw [hn (.inr (.inl (BitVec.eq_of_toNat_eq h)))]
  case h_10 h => rw [hn (.inr (.inr (BitVec.eq_of_toNat_eq h)))]
  case h_15 h => rw [hnn (.inl (BitVec.eq_of_toNat_eq h))]
  case h_16 =>
    have h : t.toNat = 15 := by
      simp only [imp_false] at *
      omega
    rw [hnn (.inr (BitVec.eq_of_toNat_eq h))]
  all_goals rfl

/-! The families each level 2 decoder can give (R44). -/

theorem sub0_mem (nnn : Addr) : sub0 nnn ∈ ([.clearScreen, .ret, .callMachineRoutine] : List Family) := by
  unfold sub0
  split_ifs <;> decide

theorem sub5_mem (n : Nibble) : sub5 n ∈ ([.skipEqualRegister, .unknown] : List Family) := by
  unfold sub5
  split_ifs <;> decide

theorem sub8_mem (n : Nibble) : sub8 n ∈ ([.assign, .or, .and, .xor, .addReg, .subReg, .shiftRight, .subReverse, .shiftLeft,
    .unknown] : List Family) := by
  unfold sub8
  split_ifs <;> decide

theorem sub9_mem (n : Nibble) : sub9 n ∈ ([.skipNotEqualRegister, .unknown] : List Family) := by
  unfold sub9
  split_ifs <;> decide

theorem subE_mem (nn : Byte) : subE nn ∈ ([.skipIfKeyPressed, .skipIfKeyNotPressed, .unknown] : List Family) := by
  unfold subE
  split_ifs <;> decide

theorem subF_mem (nn : Byte) : subF nn ∈ ([.getDelayTimer, .waitKey, .setDelayTimer, .setSoundTimer, .addIndex,
    .setIndexToSpriteAddr, .storeBCD, .dumpRegisters, .loadRegisters, .unknown] : List Family) := by
  unfold subF
  split_ifs <;> decide

/-- Settles O3: the ten single-family nibbles name their family, the other six hand over to their level 2 decoder. -/
theorem topNibbleSelectsTheBranch : Obligations.TopNibbleSelectsTheBranch := by
  intro w
  simp only [decode_family]
  refine ⟨fun h => ?top0, fun h => ?_, fun h => ?_, fun h => ?_, fun h => ?_, fun h => ?top5, fun h => ?_, fun h => ?_,
    fun h => ?top8, fun h => ?top9, fun h => ?_, fun h => ?_, fun h => ?_, fun h => ?_, fun h => ?topE, fun h => ?topF⟩
  case top0 => exact familyOf_of_top0 h ▸ sub0_mem _
  case top5 => exact familyOf_of_top5 h ▸ sub5_mem _
  case top8 => exact familyOf_of_top8 h ▸ sub8_mem _
  case top9 => exact familyOf_of_top9 h ▸ sub9_mem _
  case topE => exact familyOf_of_topE h ▸ subE_mem _
  case topF => exact familyOf_of_topF h ▸ subF_mem _
  all_goals simp [familyOf, h]

/-- Settles O4: under top nibble 0 the family is that of the level 2 decoder on the whole of `nnn`. -/
theorem topZeroLooksAtAllTwelveBits : Obligations.TopZeroLooksAtAllTwelveBits := by
  refine ⟨fun w h => ?_, by decide, by decide, by decide⟩
  rw [decode_family, familyOf_of_top0 h]
  refine ⟨fun hcls => ?_, fun hret => ?_, fun hcls hret => ⟨?_, toNat_nnnOf w⟩, fun hunknown => ?_⟩
  · simp [sub0, hcls]
  · simp [sub0, hret]
  · simp [sub0, hcls, hret]
  · exact absurd (hunknown ▸ sub0_mem (nnnOf w)) (by decide)

/-- Settles O5: both compare nibbles test `n`, which is the word modulo 16, against 0. -/
theorem compareNibblesNeedLowNibbleZero : Obligations.CompareNibblesNeedLowNibbleZero := by
  refine fun w => ⟨fun h => ?_, fun h => ?_⟩
  · simp [familyOf_of_top5 h, sub5, ← BitVec.toNat_inj]
  · simp [familyOf_of_top9 h, sub9, ← BitVec.toNat_inj]

/-- Settles O7: the level 2 decoder tests `nn`, which is the word modulo 256, against its two codes. -/
theorem keyLowByteSelects : Obligations.KeyLowByteSelects := by
  intro w h
  simp [familyOf_of_topE h, subE, ← BitVec.toNat_inj]

/-- The nine codes of top nibble F (R49). -/
def miscCodes : List (Nat × Family) :=
  [(0x07, .getDelayTimer), (0x0A, .waitKey), (0x15, .setDelayTimer), (0x18, .setSoundTimer), (0x1E, .addIndex),
    (0x29, .setIndexToSpriteAddr), (0x33, .storeBCD), (0x55, .dumpRegisters), (0x65, .loadRegisters)]

theorem subF_eq_lookup (nn : Byte) : subF nn = (miscCodes.lookup nn.toNat).getD .unknown := by
  unfold subF
  split_ifs with h h h h h h h h h
  any_goals rw [h]; rfl
  have hnone : miscCodes.lookup nn.toNat = none := by
    rw [List.lookup_eq_none_iff]
    simp_all [miscCodes, ← BitVec.toNat_inj]
  rw [hnone]
  rfl

theorem familyOf_eq_lookup {w : Word} (h : topOf w = 0xF#4) :
    familyOf w = (miscCodes.lookup (w.toNat % 256)).getD .unknown := by
  rw [familyOf_of_topF h, subF_eq_lookup, toNat_nnOf]

theorem lookup_miscCodes_eq_unknown (v : Nat) :
    (miscCodes.lookup v).getD .unknown = .unknown ↔ v ∉ miscCodes.map Prod.fst := by
  constructor
  · intro h hmem
    fin_cases hmem <;> exact absurd h (by decide)
  · intro h
    rw [List.lookup_eq_none_iff.mpr]
    · rfl
    · simpa [miscCodes] using h

/-- Of the 256 low bytes, all but the nine codes are in no entry of the list. -/
theorem length_filter_notMem_miscCodes :
    ((List.range 256).filter (fun v => v ∉ miscCodes.map Prod.fst)).length = 247 := by
  have hcodes : (miscCodes.map Prod.fst).toFinset ⊆ Finset.range 256 := by decide
  calc ((List.range 256).filter (fun v => v ∉ miscCodes.map Prod.fst)).length
      = ((Finset.range 256).filter (fun v => v ∉ miscCodes.map Prod.fst)).card := rfl
    _ = (Finset.range 256 \ (miscCodes.map Prod.fst).toFinset).card := by
        simp only [Finset.sdiff_eq_filter, List.mem_toFinset]
    _ = 256 - 9 := by rw [Finset.card_sdiff_of_subset hcodes, Finset.card_range]; rfl

/-- The words with top nibble F and `x = 0`. -/
theorem familyOf_misc_word {v : Nat} (hv : v < 256) :
    familyOf (BitVec.ofNat 16 (0xF000 + v)) = (miscCodes.lookup v).getD .unknown := by
  have hword : (BitVec.ofNat 16 (0xF000 + v)).toNat = 0xF000 + v := by
    rw [BitVec.toNat_ofNat]
    omega
  have htop : topOf (BitVec.ofNat 16 (0xF000 + v)) = 0xF#4 := by
    apply BitVec.eq_of_toNat_eq
    rw [toNat_topOf, hword, BitVec.toNat_ofNat]
    omega
  rw [familyOf_eq_lookup htop, hword, show (0xF000 + v) % 256 = v by omega]

/-- Settles O8: the level 2 decoder reads `nn`, which is the word modulo 256, in the list of its codes, and 247 bytes are not
in the list. -/
theorem miscLowByteSelects : Obligations.MiscLowByteSelects := by
  refine ⟨fun w h => familyOf_eq_lookup h, ?_⟩
  have hread : ∀ v ∈ List.range 256, ((decode (BitVec.ofNat 16 (0xF000 + v))).family == .unknown) =
      decide (v ∉ miscCodes.map Prod.fst) := by
    intro v hv
    rw [decode_family, familyOf_misc_word (List.mem_range.1 hv), Bool.eq_iff_iff, beq_iff_eq, decide_eq_true_iff,
      lookup_miscCodes_eq_unknown]
  rw [List.filter_congr hread, length_filter_notMem_miscCodes]

end Sys2Proof.Proofs
end

section
/-! PROOFS. The rows of the opcode table against the tree: a defined row claims the words of its family and no others (R50, R52,
R53). -/

namespace Sys2Proof.Proofs

open Sys2Proof Sys2Proof.Machine Sys2Proof.Laws

/-! What the columns of the table say, read off its 35 defined rows. -/

theorem topOf_mask {r : OpcodeRow} (hr : r ∈ definedRows) : topOf r.mask = 0xF#4 := by
  revert r
  decide

theorem nnnOf_mask {r : OpcodeRow} (hr : r ∈ definedRows) :
    r.excepted = [] → topOf r.value = 0x0#4 → nnnOf r.mask = 0xFFF#12 := by
  revert r
  decide

theorem nOf_mask {r : OpcodeRow} (hr : r ∈ definedRows) :
    topOf r.value = 0x5#4 ∨ topOf r.value = 0x8#4 ∨ topOf r.value = 0x9#4 → nOf r.mask = 0xF#4 := by
  revert r
  decide

theorem nnOf_mask {r : OpcodeRow} (hr : r ∈ definedRows) :
    topOf r.value = 0xE#4 ∨ topOf r.value = 0xF#4 → nnOf r.mask = 0xFF#8 := by
  revert r
  decide

theorem familyOf_value {r : OpcodeRow} (hr : r ∈ definedRows) : familyOf r.value = r.family := by
  revert r
  decide

theorem excepted_cases {r : OpcodeRow} (hr : r ∈ definedRows) : r.excepted = [] ∨
    r.family = .callMachineRoutine ∧ topOf r.value = 0x0#4 ∧ r.excepted = [0x00E0#16, 0x00EE#16] := by
  revert r
  decide

theorem family_ne_unknown {r : OpcodeRow} (hr : r ∈ definedRows) : r.family ≠ .unknown := by
  revert r
  decide

theorem exists_definedRow (f : Family) : f ≠ .unknown → ∃ r ∈ definedRows, r.family = f := by
  cases f <;> decide

theorem eq_of_family_eq {r q : OpcodeRow} (hr : r ∈ definedRows) (hq : q ∈ definedRows) (h : r.family = q.family) : r = q :=
  List.inj_on_of_nodup_map (f := OpcodeRow.family) (by decide) hr hq h

theorem of_mem_excepted {r : OpcodeRow} {w : Word} (hr : r ∈ definedRows) (hw : w ∈ r.excepted) :
    r.family = .callMachineRoutine ∧ (w = 0x00E0#16 ∨ w = 0x00EE#16) := by
  obtain hnil | ⟨hsys, -, hexc⟩ := excepted_cases hr
  · exact absurd (hnil ▸ hw) List.not_mem_nil
  · exact ⟨hsys, by simpa [hexc] using hw⟩

/-! From the row to the tree: a word has the fixed bits of the row's `match` word, and those are all the bits that the tree
reads. -/

/-- A field that lies inside the mask is fixed by it. -/
theorem extractLsb'_eq_of_and_eq {w mask value : Word} {start len : Nat} (h : w &&& mask = value)
    (hmask : mask.extractLsb' start len = BitVec.allOnes len) : w.extractLsb' start len = value.extractLsb' start len := by
  rw [← h, BitVec.extractLsb'_and, hmask, BitVec.and_allOnes]

theorem familyOf_of_matches {r : OpcodeRow} {w : Word} (hr : r ∈ definedRows) (h : r.Matches w) : familyOf w = r.family := by
  obtain ⟨hfixed, hexc⟩ := h
  have htop : topOf w = topOf r.value := extractLsb'_eq_of_and_eq hfixed (topOf_mask hr)
  obtain hnil | ⟨hsys, hzero, htwo⟩ := excepted_cases hr
  · rw [← familyOf_value hr]
    apply familyOf_congr htop <;> rw [htop] <;> intro ht
    · exact extractLsb'_eq_of_and_eq hfixed (nnnOf_mask hr hnil ht)
    · exact extractLsb'_eq_of_and_eq hfixed (nOf_mask hr ht)
    · exact extractLsb'_eq_of_and_eq hfixed (nnOf_mask hr ht)
  · have ht : topOf w = 0x0#4 := htop.trans hzero
    have hw : 0x0#4 ++ nnnOf w ∉ [0x00E0#16, 0x00EE#16] := by rwa [top_append_nnn ht, ← htwo]
    have hcls : nnnOf w ≠ 0x0E0#12 := fun hn => hw (by rw [hn]; decide)
    have hret : nnnOf w ≠ 0x0EE#12 := fun hn => hw (by rw [hn]; decide)
    rw [familyOf_of_top0 ht, hsys]
    simp [sub0, hcls, hret]

/-! From the tree to the row: a word is the layout of its instruction, and a mask leaves of a layout the fixed bits. -/

theorem nnn_and_mask (t : Nibble) (nnn : Addr) : t ++ nnn &&& 0xF000#16 = t ++ 0#12 := by
  have h : t ++ nnn &&& BitVec.allOnes 4 ++ 0#12 = t ++ 0#12 := by
    rw [BitVec.and_append, BitVec.and_allOnes, BitVec.and_zero]
  exact h

theorem xnn_and_mask (t x : Nibble) (nn : Byte) : t ++ x ++ nn &&& 0xF000#16 = t ++ 0#4 ++ 0#8 := by
  have h : t ++ x ++ nn &&& BitVec.allOnes 4 ++ 0#4 ++ 0#8 = t ++ 0#4 ++ 0#8 := by
    simp only [BitVec.and_append, BitVec.and_allOnes, BitVec.and_zero]
  exact h

theorem xy_and_mask (t x y n : Nibble) : t ++ x ++ y ++ n &&& 0xF00F#16 = t ++ 0#4 ++ 0#4 ++ n := by
  have h : t ++ x ++ y ++ n &&& BitVec.allOnes 4 ++ 0#4 ++ 0#4 ++ BitVec.allOnes 4 = t ++ 0#4 ++ 0#4 ++ n := by
    simp only [BitVec.and_append, BitVec.and_allOnes, BitVec.and_zero]
  exact h

theorem xyn_and_mask (t x y n : Nibble) : t ++ x ++ y ++ n &&& 0xF000#16 = t ++ 0#4 ++ 0#4 ++ 0#4 := by
  have h : t ++ x ++ y ++ n &&& BitVec.allOnes 4 ++ 0#4 ++ 0#4 ++ 0#4 = t ++ 0#4 ++ 0#4 ++ 0#4 := by
    simp only [BitVec.and_append, BitVec.and_allOnes, BitVec.and_zero]
  exact h

theorem x_and_mask (t x : Nibble) (nn : Byte) : t ++ x ++ nn &&& 0xF0FF#16 = t ++ 0#4 ++ nn := by
  have h : t ++ x ++ nn &&& BitVec.allOnes 4 ++ 0#4 ++ BitVec.allOnes 8 = t ++ 0#4 ++ nn := by
    simp only [BitVec.and_append, BitVec.and_allOnes, BitVec.and_zero]
  exact h

/-- Along the 35 rows, by the shape of each. -/
theorem layout_and_mask {r : OpcodeRow} (hr : r ∈ definedRows) (w : Word) :
    layout (instrOf r.family w) &&& r.mask = r.value := by
  revert r
  simp [definedRows, rowsLow, rowsMid, rowsHigh, rowsF, instrOf, layout, nnn_and_mask, xnn_and_mask, xy_and_mask, xyn_and_mask,
    x_and_mask]

theorem matches_of_familyOf {r : OpcodeRow} {w : Word} (hr : r ∈ definedRows) (h : familyOf w = r.family) : r.Matches w := by
  have hw : layout (instrOf r.family w) = w := h ▸ layout_decodeInstr w
  refine ⟨?_, fun hexc => ?_⟩
  · calc w &&& r.mask = layout (instrOf r.family w) &&& r.mask := by rw [hw]
      _ = r.value := layout_and_mask hr w
  · obtain ⟨hsys, rfl | rfl⟩ := of_mem_excepted hr hexc
    · exact absurd (h.trans hsys) (by decide)
    · exact absurd (h.trans hsys) (by decide)

theorem claims_iff_familyOf {r : OpcodeRow} (hr : r ∈ definedRows) (w : Word) : r.Claims w ↔ familyOf w = r.family :=
  (claims_iff_matches hr w).trans ⟨familyOf_of_matches hr, matches_of_familyOf hr⟩

/-- Settles O9: a defined row claims exactly the words of its family; no two rows have the same family, and every family but
`Unknown` has a row. -/
theorem rowsPartitionTheOpcodeSpace : Obligations.RowsPartitionTheOpcodeSpace := by
  intro w
  have hclaims : ∀ r ∈ definedRows, r.Claims w ↔ familyOf w = r.family := fun r hr => claims_iff_familyOf hr w
  refine ⟨fun r hr q hq hrw hqw => ?_, hclaims, fun hunknown r hr hrw => ?_, fun hnone => ?_⟩
  · have hrf := (hclaims r hr).1 hrw
    have hqf := (hclaims q hq).1 hqw
    exact eq_of_family_eq hr hq (hrf.symm.trans hqf)
  · exact family_ne_unknown hr (((hclaims r hr).1 hrw).symm.trans hunknown)
  · by_contra hdefined
    obtain ⟨r, hr, hrf⟩ := exists_definedRow (familyOf w) hdefined
    exact hnone r hr ((hclaims r hr).2 hrf.symm)

/-- A word that one row excepts and another has as bare mask and match: the other row wins (R53). -/
theorem overlap_of_mem_excepted {r q : OpcodeRow} {w : Word} (hr : r ∈ definedRows) (hq : q ∈ definedRows) (hne : r ≠ q)
    (hexc : w ∈ r.excepted) (hqw : w &&& q.mask = q.value) :
    (w = 0x00E0#16 ∨ w = 0x00EE#16) ∧ r.family = .callMachineRoutine ∧ familyOf w = q.family := by
  obtain ⟨hsys, hwords⟩ := of_mem_excepted hr hexc
  have hexcq : w ∉ q.excepted := fun h => hne (eq_of_family_eq hr hq (hsys.trans (of_mem_excepted hq h).1.symm))
  exact ⟨hwords, hsys, familyOf_of_matches hq ⟨hqw, hexcq⟩⟩

/-- Settles O10: two rows that share a word share it through the `except` list of one of them, or else it would have two
families. -/
theorem onlyTheTwoFullWordsOverlap : Obligations.OnlyTheTwoFullWordsOverlap := by
  refine ⟨fun w r hr q hq hne hrw hqw => ?_, by decide, by decide, by decide, by decide, by decide⟩
  by_cases hexcr : w ∈ r.excepted
  · obtain ⟨hwords, hsys, hf⟩ := overlap_of_mem_excepted hr hq hne hexcr hqw
    exact ⟨hwords, .inl ⟨hsys, hf⟩⟩
  by_cases hexcq : w ∈ q.excepted
  · obtain ⟨hwords, hsys, hf⟩ := overlap_of_mem_excepted hq hr hne.symm hexcq hrw
    exact ⟨hwords, .inr ⟨hsys, hf⟩⟩
  have hrf := familyOf_of_matches hr ⟨hrw, hexcr⟩
  have hqf := familyOf_of_matches hq ⟨hqw, hexcq⟩
  exact absurd (eq_of_family_eq hr hq (hrf.symm.trans hqf)) hne

end Sys2Proof.Proofs
end

section
/-! PROOFS. The decode algorithm as a whole: its operand slices, its `Unknown` set, its frame, and its independence of order (R70,
R71, R73, R74). -/

namespace Sys2Proof.Proofs

open Sys2Proof Sys2Proof.Machine Sys2Proof.Laws

@[simp] theorem toNat_xOf (w : Word) : (xOf w).toNat = w.toNat / 256 % 16 := by
  rw [xOf, BitVec.extractLsb'_toNat, Nat.shiftRight_eq_div_pow]

@[simp] theorem toNat_yOf (w : Word) : (yOf w).toNat = w.toNat / 16 % 16 := by
  rw [yOf, BitVec.extractLsb'_toNat, Nat.shiftRight_eq_div_pow]

/-- Settles O2: the operand ports are the slices of the word, and the identities between them are those of quotient and
remainder. -/
theorem decodedFieldsAreSlices : Obligations.DecodedFieldsAreSlices := by
  refine ⟨fun w => ?_, by decide, by decide, by decide⟩
  simp only [decode_eq_record, record_x, record_y, record_n, record_nn, record_nnn, record_raw, toNat_xOf, toNat_yOf, toNat_nOf,
    toNat_nnOf, toNat_nnnOf, toNat_topOf, true_and, and_true]
  omega

/-! Which values of its field each level 2 decoder leaves unassigned (R51). -/

theorem sub5_eq_unknown (n : Nibble) : sub5 n = .unknown ↔ n ≠ 0x0#4 := by
  simp [sub5]

theorem sub8_eq_unknown (n : Nibble) : sub8 n = .unknown ↔
    n = 0x8#4 ∨ n = 0x9#4 ∨ n = 0xA#4 ∨ n = 0xB#4 ∨ n = 0xC#4 ∨ n = 0xD#4 ∨ n = 0xF#4 := by
  revert n
  decide

theorem sub9_eq_unknown (n : Nibble) : sub9 n = .unknown ↔ n ≠ 0x0#4 := by
  simp [sub9]

theorem subE_eq_unknown (nn : Byte) : subE nn = .unknown ↔ nn ≠ 0x9E#8 ∧ nn ≠ 0xA1#8 := by
  unfold subE
  split_ifs <;> simp_all

theorem subF_eq_unknown (nn : Byte) : subF nn = .unknown ↔ nn ≠ 0x07#8 ∧ nn ≠ 0x0A#8 ∧ nn ≠ 0x15#8 ∧ nn ≠ 0x18#8 ∧
    nn ≠ 0x1E#8 ∧ nn ≠ 0x29#8 ∧ nn ≠ 0x33#8 ∧ nn ≠ 0x55#8 ∧ nn ≠ 0x65#8 := by
  unfold subF
  split_ifs <;> simp_all

/-- The level 1 select passes `Unknown` on from five of its level 2 decoders and gives it from no other input (R51). -/
theorem familyOf_eq_unknown (w : Word) : familyOf w = .unknown ↔
    (topOf w = 0x5#4 ∧ sub5 (nOf w) = .unknown) ∨ (topOf w = 0x8#4 ∧ sub8 (nOf w) = .unknown) ∨
    (topOf w = 0x9#4 ∧ sub9 (nOf w) = .unknown) ∨ (topOf w = 0xE#4 ∧ subE (nnOf w) = .unknown) ∨
    (topOf w = 0xF#4 ∧ subF (nnOf w) = .unknown) := by
  constructor
  · intro hunknown
    unfold familyOf at hunknown
    split at hunknown
    case h_1 => exact absurd (hunknown ▸ sub0_mem (nnnOf w)) (by decide)
    case h_6 h => exact .inl ⟨BitVec.eq_of_toNat_eq h, hunknown⟩
    case h_9 h => exact .inr (.inl ⟨BitVec.eq_of_toNat_eq h, hunknown⟩)
    case h_10 h => exact .inr (.inr (.inl ⟨BitVec.eq_of_toNat_eq h, hunknown⟩))
    case h_15 h => exact .inr (.inr (.inr (.inl ⟨BitVec.eq_of_toNat_eq h, hunknown⟩)))
    case h_16 =>
      have htop : (topOf w).toNat = 15 := by
        have := (topOf w).isLt
        simp only [imp_false] at *
        omega
      exact .inr (.inr (.inr (.inr ⟨BitVec.eq_of_toNat_eq htop, hunknown⟩)))
    all_goals cases hunknown
  · rintro (⟨ht, h⟩ | ⟨ht, h⟩ | ⟨ht, h⟩ | ⟨ht, h⟩ | ⟨ht, h⟩)
    · rw [familyOf_of_top5 ht, h]
    · rw [familyOf_of_top8 ht, h]
    · rw [familyOf_of_top9 ht, h]
    · rw [familyOf_of_topE ht, h]
    · rw [familyOf_of_topF ht, h]

/-- Settles O13: the unassigned words are those that a level 2 decoder leaves unassigned, and a defined row claims every word of
its family. -/
theorem unknownIsExact : Obligations.UnknownIsExact := by
  refine ⟨fun w => ?_, fun w r hr hf => (claims_iff_familyOf hr w).2 hf, by decide, by decide, by decide, by decide⟩
  rw [decode_family, familyOf_eq_unknown, sub5_eq_unknown, sub8_eq_unknown, sub9_eq_unknown, subE_eq_unknown, subF_eq_unknown]

/-- Whatever the instruction, also one that no opcode decodes to, it completes by driving one record onto the outputs (R74). -/
theorem exec_eq_next_drive (i : Instr) (s : State) : ∃ d, exec i s = .next (drive d s) := by
  cases i <;> exact ⟨_, rfl⟩

/-- Settles O32: driving the outputs leaves every other field as it was. -/
theorem decodingIsAllAnInstructionDoes : Obligations.DecodingIsAllAnInstructionDoes := by
  intro i s
  obtain ⟨d, hexec⟩ := exec_eq_next_drive i s
  exact ⟨drive d s, hexec, fun _ => by rw [drive_rom], drive_rom d s, drive_offset d s, drive_opcode d s, drive_records d s⟩

/-- The block follows its input: the outputs take `decode` of the input port, whatever else the state holds (R73). -/
theorem settle_eq_next (s : State) : settle s = .next (drive (decode s.opcode) s) := exec_decodeInstr s.opcode s

/-- Settles O54: the outputs of a settled block are a function of its input port alone, so the presented opcode decides them and
no earlier one does. -/
theorem resultsAreDecodeInAnyOrder : Obligations.ResultsAreDecodeInAnyOrder := by
  refine ⟨fun s w => settle_eq_next { s with opcode := w }, fun w s t h k => ?_⟩
  have hsettle := h k
  rw [settle_eq_next] at hsettle
  rw [← Host.Outcome.next.inj hsettle, drive_out]

end Sys2Proof.Proofs
end

section
/-! PROOFS. No fault and no refusal: every turn of the driver and every opcode gives a next state (R141). -/

namespace Sys2Proof.Proofs

open Sys2Proof Sys2Proof.Machine Sys2Proof.Laws

/-- A step answers a next state at the end of the ROM, where nothing changes, and also while a whole opcode is left. -/
theorem goesOn (s : State) : s.GoesOn := by
  cases hn : nextOpcode s with
  | none => exact ⟨s, step_of_none hn⟩
  | some w => exact ⟨_, step_eq_next_of_some hn⟩

/-- Settles O33: a step goes on whether or not an opcode is left, and the meaning of a decoded opcode is to drive its decode, of
which the family port is one field. -/
theorem neverFaultsNeverRefuses : Obligations.NeverFaultsNeverRefuses := by
  refine ⟨goesOn, fun w s => ⟨drive (decode w) s, exec_decodeInstr w s, ?_⟩⟩
  rw [drive_out]

end Sys2Proof.Proofs
end

section
/-! PROOFS. Instructions and opcodes: an opcode decodes to a well-formed instruction and encodes back, and a well-formed
instruction is decoded from its encoding (R64, R72). -/

namespace Sys2Proof.Proofs

open Sys2Proof Sys2Proof.Machine Sys2Proof.Laws

/-- The encoder gives the layout that the `encoding` column draws, for every instruction (R54, R72). -/
theorem encode_eq_layout (i : Instr) : encode i = layout i :=
  match i with
  | .clearScreen => EncodeLayout.clearScreen
  | .ret => EncodeLayout.ret
  | .callMachineRoutine nnn => EncodeLayout.callMachineRoutine nnn
  | .jump nnn => EncodeLayout.jump nnn
  | .callSubroutine nnn => EncodeLayout.callSubroutine nnn
  | .skipEqualImmediate x nn => EncodeLayout.skipEqualImmediate x nn
  | .skipNotEqualImmediate x nn => EncodeLayout.skipNotEqualImmediate x nn
  | .skipEqualRegister x y => EncodeLayout.skipEqualRegister x y
  | .setImmediate x nn => EncodeLayout.setImmediate x nn
  | .addImmediate x nn => EncodeLayout.addImmediate x nn
  | .assign x y => EncodeLayout.assign x y
  | .or x y => EncodeLayout.or x y
  | .and x y => EncodeLayout.and x y
  | .xor x y => EncodeLayout.xor x y
  | .addReg x y => EncodeLayout.addReg x y
  | .subReg x y => EncodeLayout.subReg x y
  | .shiftRight x y => EncodeLayout.shiftRight x y
  | .subReverse x y => EncodeLayout.subReverse x y
  | .shiftLeft x y => EncodeLayout.shiftLeft x y
  | .skipNotEqualRegister x y => EncodeLayout.skipNotEqualRegister x y
  | .setIndex nnn => EncodeLayout.setIndex nnn
  | .jumpAddOffset nnn => EncodeLayout.jumpAddOffset nnn
  | .random x nn => EncodeLayout.random x nn
  | .draw x y n => EncodeLayout.draw x y n
  | .skipIfKeyPressed x => EncodeLayout.skipIfKeyPressed x
  | .skipIfKeyNotPressed x => EncodeLayout.skipIfKeyNotPressed x
  | .getDelayTimer x => EncodeLayout.getDelayTimer x
  | .waitKey x => EncodeLayout.waitKey x
  | .setDelayTimer x => EncodeLayout.setDelayTimer x
  | .setSoundTimer x => EncodeLayout.setSoundTimer x
  | .addIndex x => EncodeLayout.addIndex x
  | .setIndexToSpriteAddr x => EncodeLayout.setIndexToSpriteAddr x
  | .storeBCD x => EncodeLayout.storeBCD x
  | .dumpRegisters x => EncodeLayout.dumpRegisters x
  | .loadRegisters x => EncodeLayout.loadRegisters x
  | .unknown raw => EncodeLayout.unknown raw

/-- No bit of the opcode is lost by decoding (R72). -/
@[simp] theorem encode_decodeInstr (w : Word) : encode (decodeInstr w) = w := by
  rw [encode_eq_layout, layout_decodeInstr]

/-- The condition of R115 is the `Unknown` leaf of the tree (R51, R71). -/
theorem unassigned_iff (w : Word) : unassigned w = true ↔ familyOf w = .unknown := by
  rw [← decode_family, unknownIsExact.1 w]
  simp [unassigned, or_assoc]

/-- A word of `CallMachineRoutine` is neither of the two words that are other instructions (R53). -/
theorem nnnOf_ne_of_callMachineRoutine {w : Word} (h : familyOf w = .callMachineRoutine) :
    nnnOf w ≠ 0x0E0#12 ∧ nnnOf w ≠ 0x0EE#12 := by
  have hw : 0x0#4 ++ nnnOf w = w := by
    have hlayout := layout_decodeInstr w
    rwa [decodeInstr, h] at hlayout
  constructor
  · intro hnnn
    rw [← hw, hnnn] at h
    exact absurd h (by decide)
  · intro hnnn
    rw [← hw, hnnn] at h
    exact absurd h (by decide)

/-- The two checks of well-formedness, on an instruction read off a word. -/
theorem wellFormed_instrOf (f : Family) (w : Word) : (instrOf f w).wellFormed = true ↔
    (f = .callMachineRoutine → nnnOf w ≠ 0x0E0#12 ∧ nnnOf w ≠ 0x0EE#12) ∧ (f = .unknown → unassigned w = true) := by
  cases f <;> simp [instrOf, Instr.wellFormed]

theorem wellFormed_decodeInstr (w : Word) : (decodeInstr w).wellFormed = true :=
  (wellFormed_instrOf (familyOf w) w).2 ⟨nnnOf_ne_of_callMachineRoutine, (unassigned_iff w).2⟩

/-- The family that an instruction term names. -/
def familyOfInstr (i : Instr) : Family :=
  match i with
  | .clearScreen => .clearScreen
  | .ret => .ret
  | .callMachineRoutine _ => .callMachineRoutine
  | .jump _ => .jump
  | .callSubroutine _ => .callSubroutine
  | .skipEqualImmediate _ _ => .skipEqualImmediate
  | .skipNotEqualImmediate _ _ => .skipNotEqualImmediate
  | .skipEqualRegister _ _ => .skipEqualRegister
  | .setImmediate _ _ => .setImmediate
  | .addImmediate _ _ => .addImmediate
  | .assign _ _ => .assign
  | .or _ _ => .or
  | .and _ _ => .and
  | .xor _ _ => .xor
  | .addReg _ _ => .addReg
  | .subReg _ _ => .subReg
  | .shiftRight _ _ => .shiftRight
  | .subReverse _ _ => .subReverse
  | .shiftLeft _ _ => .shiftLeft
  | .skipNotEqualRegister _ _ => .skipNotEqualRegister
  | .setIndex _ => .setIndex
  | .jumpAddOffset _ => .jumpAddOffset
  | .random _ _ => .random
  | .draw _ _ _ => .draw
  | .skipIfKeyPressed _ => .skipIfKeyPressed
  | .skipIfKeyNotPressed _ => .skipIfKeyNotPressed
  | .getDelayTimer _ => .getDelayTimer
  | .waitKey _ => .waitKey
  | .setDelayTimer _ => .setDelayTimer
  | .setSoundTimer _ => .setSoundTimer
  | .addIndex _ => .addIndex
  | .setIndexToSpriteAddr _ => .setIndexToSpriteAddr
  | .storeBCD _ => .storeBCD
  | .dumpRegisters _ => .dumpRegisters
  | .loadRegisters _ => .loadRegisters
  | .unknown _ => .unknown

/-- The operands stand in the layout where the slices read them, whether or not the term is well-formed (R42, R72). -/
theorem instrOf_layout (i : Instr) : instrOf (familyOfInstr i) (layout i) = i := by
  cases i <;> simp [familyOfInstr, instrOf, layout]

/-- The fixed bits of the layout lead the multiplexers to the family, along the constructors; the two checks of
well-formedness are used where the whole of `nnn` or of the word is tested (R44 to R49). -/
theorem familyOf_layout {i : Instr} (h : i.wellFormed = true) : familyOf (layout i) = familyOfInstr i := by
  cases i
  case unknown raw => exact (unassigned_iff raw).1 h
  case callMachineRoutine nnn =>
    have hne : nnn ≠ 0x0E0#12 ∧ nnn ≠ 0x0EE#12 := by simpa [Instr.wellFormed] using h
    simp [familyOfInstr, layout, familyOf, sub0, hne]
  case clearScreen | ret => decide
  all_goals simp [familyOfInstr, layout, familyOf, sub5, sub8, sub9, subE, subF]

theorem decodeInstr_encode {i : Instr} (h : i.wellFormed = true) : decodeInstr (encode i) = i := by
  rw [encode_eq_layout, decodeInstr, familyOf_layout h, instrOf_layout]

/-- Settles O15: the fixed bits of a well-formed instruction's layout lead the tree to its family, whose slices are its
operands; conversely whatever is decoded is well-formed. -/
theorem decodeInvertsEncode : Obligations.DecodeInvertsEncode :=
  ⟨fun i => ⟨fun h => h ▸ wellFormed_decodeInstr (encode i), decodeInstr_encode⟩, by decide, by decide⟩

/-- Settles O16: an opcode is the layout of the instruction it decodes to, and matches the row of its family. -/
theorem encodeInvertsDecode : Obligations.EncodeInvertsDecode := by
  refine fun w => ⟨wellFormed_decodeInstr w, encode_decodeInstr w, fun r hr hf => ?_⟩
  rw [encode_decodeInstr]
  exact (matches_of_familyOf hr hf.symm).1

/-- Settles O31: a well-formed instruction is the one its encoding decodes to, and the meaning of a decoded instruction is to
drive `decode` of the opcode. -/
theorem execAgreesWithTheTree : Obligations.ExecAgreesWithTheTree := by
  intro i s h
  calc exec i s = exec (decodeInstr (encode i)) s := by rw [decodeInstr_encode h]
    _ = .next (drive (decode (encode i)) s) := exec_decodeInstr (encode i) s

/-- Settles O35: the turn of the driver while an opcode is left. -/
theorem stepGivesDecodeOfTheOpcode : Obligations.StepGivesDecodeOfTheOpcode :=
  fun _ _ h => step_eq_next_of_some h

/-- Two words from which the fields that a family uses are read alike give the same instruction of that family. -/
theorem decodeInstr_eq_of_same {w v : Word} (h : SameInstruction (decode w) (decode v)) : decodeInstr w = decodeInstr v := by
  obtain ⟨hf, hx, hy, hn, hnn, hnnn, hraw⟩ := h
  simp only [decode_eq_record, record_family, record_x, record_y, record_n, record_nn, record_nnn, record_raw] at *
  unfold decodeInstr
  rw [← hf]
  generalize familyOf w = f at *
  cases f <;> simp_all [instrOf, usesOf]

/-- Settles O21: the same instruction has one layout, and a word is the layout of its instruction. -/
theorem sameInstructionIsSameWord : Obligations.SameInstructionIsSameWord := by
  refine fun w v => ⟨fun h => ?_, ?_⟩
  · calc w = layout (decodeInstr w) := (layout_decodeInstr w).symm
      _ = layout (decodeInstr v) := by rw [decodeInstr_eq_of_same h]
      _ = v := layout_decodeInstr v
  · rintro rfl
    exact ⟨rfl, fun _ => rfl, fun _ => rfl, fun _ => rfl, fun _ => rfl, fun _ => rfl, fun _ => rfl⟩

end Sys2Proof.Proofs
end

section
/-! PROOFS. The per-family rules R80 to R115: for every instruction its word, the record of its word, its completion and its
display string. -/

namespace Sys2Proof.Proofs

open Sys2Proof Sys2Proof.Machine Sys2Proof.Laws

/-- The record that a word drives when it is the layout of a well-formed instruction (R64). -/
theorem decode_layout {i : Instr} (h : i.wellFormed = true) : decode (layout i) =
    record (familyOfInstr i) (layout i) (usesOf (familyOfInstr i)) (unknownOf (familyOfInstr i)) := by
  rw [decode_eq_record, familyOf_layout h]

/-- What template R75 says of every well-formed instruction; a rule of one family names the word, the record and
the text. -/
theorem ruleOf_of_wellFormed {i : Instr} {w : Word} {d : DecodedInstruction} {text : String} (h : i.wellFormed = true)
    (hw : layout i = w) (hd : record (familyOfInstr i) w (usesOf (familyOfInstr i)) (unknownOf (familyOfInstr i)) = d)
    (htext : (render d).toList = text.toList) : RuleOf i w d text := by
  subst hw
  have hdecode : decode (layout i) = d := (decode_layout h).trans hd
  exact {
    encodes := encode_eq_layout i
    decodes := encode_eq_layout i ▸ decodeInstr_encode h
    records := hdecode
    completes := fun s => by rw [execAgreesWithTheTree i s h, encode_eq_layout, hdecode]
    renders := String.toList_inj.1 htext }

/-! The records of Safety.lean are those of the words of each shape (R18, R42, R43). -/

theorem record_nnn_word (f : Family) (t : Nibble) (nnn : Addr) :
    record f (t ++ nnn) 0b10000#5 false = nnnRecord f t nnn := by
  simp [record, nnnRecord]

theorem record_xnn_word (f : Family) (t x : Nibble) (nn : Byte) :
    record f (t ++ x ++ nn) 0b01001#5 false = xnnRecord f t x nn := by
  simp [record, xnnRecord]

theorem record_nibbles_word (f : Family) (t x y n : Nibble) (uses : UsesMask) :
    record f (t ++ x ++ y ++ n) uses false = nibblesRecord f t x y n uses := by
  simp [record, nibblesRecord]

theorem record_x_word (f : Family) (t x : Nibble) (nn : Byte) :
    record f (t ++ x ++ nn) 0b00001#5 false = xRecord f t x nn := by
  simp [record, xRecord]

/-- Settles O22: the two full words by themselves, the rest of top nibble 0 by its shape. -/
theorem topZeroFamiliesDriveTheirRecords : Obligations.TopZeroFamiliesDriveTheirRecords := by
  refine ⟨ruleOf_of_wellFormed rfl rfl (by decide) rfl, ruleOf_of_wellFormed rfl rfl (by decide) rfl,
    fun nnn hcls hret => ruleOf_of_wellFormed ?_ rfl (record_nnn_word ..) rfl⟩
  simp [Instr.wellFormed, hcls, hret]

/-- Settles O23, by the shape NNN. -/
theorem addressFamiliesDriveTheirRecords : Obligations.AddressFamiliesDriveTheirRecords := by
  intro nnn
  refine ⟨?_, ?_, ?_, ?_⟩
  all_goals exact ruleOf_of_wellFormed rfl rfl (record_nnn_word ..) rfl

/-- Settles O24, by the shape XNN. -/
theorem immediateFamiliesDriveTheirRecords : Obligations.ImmediateFamiliesDriveTheirRecords := by
  intro x nn
  refine ⟨?_, ?_, ?_, ?_, ?_⟩
  all_goals exact ruleOf_of_wellFormed rfl rfl (record_xnn_word ..) (by simp [xnnRecord, render, regName])

/-- Settles O25, by the shape XYN. -/
theorem drawDrivesItsRecord : Obligations.DrawDrivesItsRecord := fun x y n =>
  ruleOf_of_wellFormed rfl rfl (record_nibbles_word ..) (by simp [nibblesRecord, render, regName])

/-- Settles O26, by the shape XY. -/
theorem registerCompareFamiliesDriveTheirRecords : Obligations.RegisterCompareFamiliesDriveTheirRecords := by
  intro x y
  refine ⟨?_, ?_⟩
  all_goals exact ruleOf_of_wellFormed rfl rfl (record_nibbles_word ..) (by simp [nibblesRecord, render, regName])

/-- Settles O27, by the shape XY. -/
theorem aluFamiliesDriveTheirRecords : Obligations.AluFamiliesDriveTheirRecords := by
  intro x y
  refine ⟨?_, ?_, ?_, ?_, ?_, ?_, ?_, ?_, ?_⟩
  all_goals exact ruleOf_of_wellFormed rfl rfl (record_nibbles_word ..) (by simp [nibblesRecord, render, regName])

/-- Settles O28, by the shape X. -/
theorem keyFamiliesDriveTheirRecords : Obligations.KeyFamiliesDriveTheirRecords := by
  intro x
  refine ⟨?_, ?_⟩
  all_goals exact ruleOf_of_wellFormed rfl rfl (record_x_word ..) (by simp [xRecord, render, regName])

/-- Settles O29, by the shape X. -/
theorem miscFamiliesDriveTheirRecords : Obligations.MiscFamiliesDriveTheirRecords := by
  intro x
  refine ⟨?_, ?_, ?_, ?_, ?_, ?_, ?_, ?_, ?_⟩
  all_goals exact ruleOf_of_wellFormed rfl rfl (record_x_word ..) (by simp [xRecord, render, regName])

/-- Settles O30: an unassigned word is well-formed as an `Unknown`, and its layout is the word. -/
theorem unknownDrivesItsRecord : Obligations.UnknownDrivesItsRecord := fun _ h => ruleOf_of_wellFormed h rfl rfl rfl

end Sys2Proof.Proofs
end

section
/-! PROOFS. The opcode table as the designs of the `family` output and as columns (R46, R50, R54, R66, R67), and the output ports
(R13, R16, R17). -/

namespace Sys2Proof.Proofs

open Sys2Proof Sys2Proof.Machine Sys2Proof.Laws

/-- The sixteen outcomes of the level 2 decoder of top nibble 8, in the order of the low nibble. -/
theorem sub8_eq_getD (n : Nibble) : sub8 n =
    ([.assign, .or, .and, .xor, .addReg, .subReg, .shiftRight, .subReverse, .unknown, .unknown, .unknown, .unknown,
      .unknown, .unknown, .shiftLeft, .unknown] : List Family).getD n.toNat .unknown := by
  revert n
  decide

/-- Settles O6: the level 2 decoder reads `n`, which is the word modulo 16, in the list of its sixteen outcomes. -/
theorem aluLowNibbleSelects : Obligations.AluLowNibbleSelects := by
  intro w h
  rw [decode_family, familyOf_of_top8 h, sub8_eq_getD, toNat_nOf]

/-- Settles O14: the tree is a function of the top nibble and of the field that its branch reads. -/
theorem familyLooksAtOneFieldBelowTop : Obligations.FamilyLooksAtOneFieldBelowTop :=
  fun _ _ ht h0 hn hnn => familyOf_congr ht h0 hn hnn

/-- Away from the two words in an `except` list, to match a row's bare mask and match is to match the row. -/
theorem matches_of_and_eq {r : OpcodeRow} {w : Word} (hr : r ∈ definedRows) (hcls : w ≠ 0x00E0#16) (hret : w ≠ 0x00EE#16)
    (h : w &&& r.mask = r.value) : r.Matches w :=
  ⟨h, fun hexc => (of_mem_excepted hr hexc).2.elim hcls hret⟩

/-- The first row by bare mask and match has the family of the tree: at the two words of an `except` list because of the order
of the rows (R53), elsewhere because the row then matches, and past the last defined row because the tree gives `Unknown`. -/
theorem familyByTable_eq_some (w : Word) : familyByTable w = some (familyOf w) := by
  by_cases hcls : w = 0x00E0#16
  · subst hcls; decide
  by_cases hret : w = 0x00EE#16
  · subst hret; decide
  unfold familyByTable opcodeTable
  rw [List.find?_append]
  cases hfind : definedRows.find? (fun r => w &&& r.mask == r.value) with
  | some r =>
    have hr : r ∈ definedRows := List.mem_of_find?_eq_some hfind
    have hw : w &&& r.mask = r.value := by simpa using List.find?_some hfind
    rw [familyOf_of_matches hr (matches_of_and_eq hr hcls hret hw)]
    rfl
  | none =>
    have hnone : ∀ r ∈ definedRows, ¬ r.Claims w := by
      intro r hr hclaim
      have hne := List.find?_eq_none.1 hfind r hr
      exact hne (by simpa using hclaim.1.1)
    have hunknown : familyOf w = .unknown := (rowsPartitionTheOpcodeSpace w).2.2.2 hnone
    rw [hunknown]
    simp [rowUnknown]

/-- The fallback row claims the words that the tree gives `Unknown` (R54, R115). -/
theorem rowUnknown_claims_iff_familyOf (w : Word) : rowUnknown.Claims w ↔ familyOf w = .unknown := by
  rw [rowUnknown_claims, ← decode_family, (rowsPartitionTheOpcodeSpace w).2.2]
  exact forall₂_congr fun r hr => not_congr (claims_iff_matches hr w).symm

/-- Every row of the table, read on its own, claims the words of its family. -/
theorem claims_iff_familyOf_of_mem_opcodeTable {r : OpcodeRow} (hr : r ∈ opcodeTable) (w : Word) :
    r.Claims w ↔ familyOf w = r.family := by
  obtain hdef | hlast := List.mem_append.1 hr
  · exact claims_iff_familyOf hdef w
  · rw [List.mem_singleton.1 hlast]
    exact rowUnknown_claims_iff_familyOf w

/-- Settles O11: the two readings of the table, each against the tree. -/
theorem firstMatchTableEqualsTree : Obligations.FirstMatchTableEqualsTree :=
  fun w => ⟨familyByTable_eq_some w, fun _ hr => claims_iff_familyOf_of_mem_opcodeTable hr w⟩

/-! The count of a row (R50): the words with its bits at its mask, less the words it excepts; for the fallback row, the words
that the others leave. -/

/-- The words below `n` in rising order. -/
def wordsBelow (n : Nat) : List Word := (List.range n).map (BitVec.ofNat 16)

theorem length_wordsBelow (n : Nat) : (wordsBelow n).length = n := by
  rw [wordsBelow, List.length_map, List.length_range]

theorem mem_wordsBelow (w : Word) {n : Nat} (h : 65536 ≤ n) : w ∈ wordsBelow n :=
  List.mem_map.2 ⟨w.toNat, List.mem_range.2 (Nat.lt_of_lt_of_le w.isLt h), by simp⟩

theorem nodup_wordsBelow {n : Nat} (h : n ≤ 65536) : (wordsBelow n).Nodup := by
  refine List.nodup_range.map_on fun a ha b hb hab => ?_
  have hmod : a % 65536 = b % 65536 := by simpa using congrArg BitVec.toNat hab
  have ha' := List.mem_range.1 ha
  have hb' := List.mem_range.1 hb
  omega

theorem length_filter_wordsBelow (n : Nat) (p : Word → Bool) :
    ((wordsBelow n).filter p).length = ((List.range n).filter (fun v => p (BitVec.ofNat 16 v))).length := by
  rw [wordsBelow, List.filter_map, List.length_map]
  rfl

/-- The words of a list without repetition are counted once each. -/
theorem length_filter_mem {words : List Word} (hnodup : words.Nodup) :
    ((wordsBelow 65536).filter (fun w => decide (w ∈ words))).length = words.length := by
  have hperm : ((wordsBelow 65536).filter (fun w => decide (w ∈ words))).Perm words := by
    rw [List.perm_ext_iff_of_nodup ((nodup_wordsBelow le_rfl).filter _) hnodup]
    simp [mem_wordsBelow]
  exact hperm.length_eq

/-- What is counted in a list is counted in two parts. -/
theorem length_filter_eq_add {α : Type} (l : List α) {p q r : α → Prop} [DecidablePred p] [DecidablePred q] [DecidablePred r]
    (h : ∀ a, p a ↔ q a ∨ r a) (hdisjoint : ∀ a, q a → ¬ r a) : (l.filter (fun a => decide (p a))).length =
      (l.filter (fun a => decide (q a))).length + (l.filter (fun a => decide (r a))).length := by
  induction l with
  | nil => rfl
  | cons a l ih =>
    by_cases hq : q a
    · simp [hq, h, hdisjoint a hq] at ih ⊢
      omega
    · by_cases hr : r a <;> simp [hq, hr, h] at ih ⊢ <;> omega

/-- A defined row claims the words with its bits at its mask, but for those it excepts. -/
theorem length_excepted_add_count {r : OpcodeRow} (hr : r ∈ definedRows) :
    r.excepted.length + ((wordsBelow 65536).filter (fun w => decide (r.Claims w))).length =
      hits r.mask.toNat r.value.toNat 16 := by
  have hnodup : r.excepted.Nodup := by revert r; decide
  have hinside : r.excepted.all (fun w => w &&& r.mask == r.value) = true := by revert r; decide
  have hparts : ∀ w, w &&& r.mask = r.value ↔ w ∈ r.excepted ∨ r.Claims w := by
    intro w
    have hw : w ∈ r.excepted → w &&& r.mask = r.value := fun h => by simpa using List.all_eq_true.1 hinside w h
    rw [claims_iff_matches hr]
    tauto
  have hdisjoint : ∀ w, w ∈ r.excepted → ¬ r.Claims w := fun w h hclaim => hclaim.1.2 h
  rw [← length_filter_matches, ← length_filter_wordsBelow 65536 (fun w => decide (w &&& r.mask = r.value)),
    length_filter_eq_add _ hparts hdisjoint, length_filter_mem hnodup]

/-- `hits` as a product over the bits, which is evaluated in one pass. -/
def bitProduct (m v k : Nat) : Nat :=
  match k with
  | 0 => if v = 0 then 1 else 0
  | k + 1 => ((if v % 2 = 0 then 1 else 0) + (if m % 2 = v % 2 then 1 else 0)) * bitProduct (m / 2) (v / 2) k

theorem hits_eq_bitProduct (m v k : Nat) : hits m v k = bitProduct m v k := by
  induction k generalizing m v with
  | zero => rfl
  | succ k ih => simp only [hits, bitProduct, ih, Nat.add_mul, ite_mul, one_mul, zero_mul]
theorem count_of_mem_definedRows {r : OpcodeRow} (hr : r ∈ definedRows) :
    ((wordsBelow 65536).filter (fun w => decide (r.Claims w))).length = r.count := by
  have hcolumns : hits r.mask.toNat r.value.toNat 16 = r.excepted.length + r.count := by
    rw [hits_eq_bitProduct]
    revert r
    decide
  exact Nat.add_left_cancel ((length_excepted_add_count hr).trans hcolumns)

/-- The words of several families are those of each. -/
theorem sum_length_filter_family (words : List Word) {families : List Family} (hnodup : families.Nodup) :
    (families.map (fun f => (words.filter (fun w => decide (familyOf w = f))).length)).sum =
      (words.filter (fun w => decide (familyOf w ∈ families))).length := by
  induction families with
  | nil => simp
  | cons f families ih =>
    obtain ⟨hf, hrest⟩ := List.nodup_cons.1 hnodup
    rw [List.map_cons, List.sum_cons, ih hrest]
    exact (length_filter_eq_add words (fun w => List.mem_cons) (fun w (hw : familyOf w = f) hmem => hf (hw ▸ hmem))).symm

/-- The words of the 35 defined families. -/
theorem length_filter_defined :
    ((wordsBelow 65536).filter (fun w => decide (familyOf w ∈ definedRows.map OpcodeRow.family))).length = 48048 := by
  have hcounts : (definedRows.map OpcodeRow.family).map (fun f =>
      ((wordsBelow 65536).filter (fun w => decide (familyOf w = f))).length) = definedRows.map OpcodeRow.count := by
    rw [List.map_map]
    refine List.map_congr_left fun r hr => ?_
    have hread : ∀ w ∈ wordsBelow 65536, decide (familyOf w = r.family) = decide (r.Claims w) :=
      fun w _ => decide_eq_decide.2 (claims_iff_familyOf hr w).symm
    rw [Function.comp_apply, List.filter_congr hread, count_of_mem_definedRows hr]
  rw [← sum_length_filter_family _ (by decide), hcounts]
  decide

theorem rowUnknown_claims_iff_notMem (w : Word) : rowUnknown.Claims w ↔ familyOf w ∉ definedRows.map OpcodeRow.family := by
  rw [rowUnknown_claims_iff_familyOf]
  generalize familyOf w = f
  cases f <;> decide

/-- Every word is one of a defined family or is claimed by the fallback row, and not both. -/
theorem length_eq_defined_add_unknown (words : List Word) : words.length =
    (words.filter (fun w => decide (familyOf w ∈ definedRows.map OpcodeRow.family))).length +
      (words.filter (fun w => decide (rowUnknown.Claims w))).length := by
  have hparts : ∀ w, True ↔ familyOf w ∈ definedRows.map OpcodeRow.family ∨ rowUnknown.Claims w := by
    intro w
    rw [rowUnknown_claims_iff_notMem]
    exact (iff_true_intro (em _)).symm
  have hdisjoint : ∀ w, familyOf w ∈ definedRows.map OpcodeRow.family → ¬ rowUnknown.Claims w :=
    fun w hmem hclaim => (rowUnknown_claims_iff_notMem w).1 hclaim hmem
  rw [← length_filter_eq_add words hparts hdisjoint, decide_true, List.filter_true]

theorem count_rowUnknown :
    ((wordsBelow 65536).filter (fun w => decide (rowUnknown.Claims w))).length = rowUnknown.count := by
  have hall := length_eq_defined_add_unknown (wordsBelow 65536)
  rw [length_filter_defined, length_wordsBelow] at hall
  have hcount : rowUnknown.count = 17488 := rfl
  omega

/-- Settles O53: the defined rows by mask and match, the fallback row by what they leave. -/
theorem rowCountsAreTheWordsClaimed : Obligations.RowCountsAreTheWordsClaimed := by
  intro r hr
  rw [← length_filter_wordsBelow 65536 (fun w => decide (r.Claims w))]
  obtain hdef | hlast := List.mem_append.1 hr
  · exact count_of_mem_definedRows hdef
  · rw [List.mem_singleton.1 hlast]
    exact count_rowUnknown

/-! Columns and ports. -/

/-- Settles O12: the columns are compared row by row. -/
theorem tableColumnsAgree : Obligations.TableColumnsAgree :=
  ⟨by decide, by decide, by decide, by decide, by decide, by decide, by decide⟩

/-- Settles O18: 24 closed words, evaluated. -/
theorem sampleWordsDecode : Obligations.SampleWordsDecode := by
  unfold Obligations.SampleWordsDecode
  decide

/-- Settles O19: each list of families, one by one. -/
theorem usesMarksTheOperandsUsed : Obligations.UsesMarksTheOperandsUsed :=
  ⟨by decide, by decide, by decide, by decide, rfl, by decide⟩

/-- The place of a family in the file is its tag, so the tag gives the family back (R16, decision D3). -/
theorem getD_families_tagOf (f : Family) : (opcodeTable.map OpcodeRow.family).getD (tagOf f).toNat .unknown = f := by
  cases f <;> rfl

theorem tagOf_injective {f g : Family} (h : tagOf f = tagOf g) : f = g := by
  rw [← getD_families_tagOf f, h, getD_families_tagOf]

theorem tagOf_le (f : Family) : (tagOf f).toNat ≤ 35 := by
  cases f <;> decide

/-- The `unknown` wire is up exactly for tag 35 (R17). -/
theorem ofBool_unknownOf (f : Family) : BitVec.ofBool (unknownOf f) = if tagOf f = 35#6 then 1#1 else 0#1 := by
  cases f <;> rfl

/-- Settles O20: the ports carry the record of the tree, and the tag determines the family. -/
theorem portsAreFunctionsOfTheOpcode : Obligations.PortsAreFunctionsOfTheOpcode := by
  refine ⟨fun w => ⟨?_, tagOf_le (familyOf w)⟩, fun f g => tagOf_injective⟩
  rw [decode_family, ← ofBool_unknownOf]
  rfl

end Sys2Proof.Proofs
end

section
/-! PROOFS. The driver and its ROM: which opcodes a file holds, where the driver stands in it, and what its turns keep (R30 to
R34, R117, R158). -/

namespace Sys2Proof.Proofs

open Sys2Proof Sys2Proof.Machine Sys2Proof.Laws

/-! Steps whatever the ROM holds. -/

/-- Settles O34: the word at the offset is the one the step presents, and its instruction drives `decode` of it. -/
theorem stepRunsTheDecodedInstruction : Obligations.StepRunsTheDecodedInstruction := by
  rintro s a b i ha hb rfl
  refine ⟨_, exec_decodeInstr (a ++ b) _, ?_⟩
  rw [step_eq_next_of_some (nextOpcode_of_reads ha hb)]
  rfl

/-- Settles O36: both outputs are `decode` of the one opcode. -/
theorem outputsForgetThePast : Obligations.OutputsForgetThePast := by
  intro s u s' u' w hs hu hs' hu'
  rw [step_eq_next_of_some hs] at hs'
  rw [step_eq_next_of_some hu] at hu'
  rw [← Host.Outcome.next.inj hs', ← Host.Outcome.next.inj hu']
  exact ⟨rfl, rfl, rfl⟩

theorem step_rom {s t : State} (h : step s = .next t) : t.rom = s.rom := by
  obtain ⟨-, rfl⟩ | ⟨w, -, rfl⟩ := step_cases h <;> rfl

/-- Settles O37: a step gives back the very ROM. -/
theorem stepKeepsTheRom : Obligations.StepKeepsTheRom := by
  intro s t h
  rw [step_rom h]
  exact ⟨fun _ => rfl, id⟩

/-- A turn of the driver moves its offset. -/
theorem step_eq_self_iff (s : State) : step s = .next s ↔ nextOpcode s = none := by
  refine ⟨fun h => ?_, step_of_none⟩
  obtain ⟨hnone, -⟩ | ⟨w, -, hs⟩ := step_cases h
  · exact hnone
  · have hoffset : s.offset = s.offset + 2 := congrArg State.offset hs
    omega

/-! The opcodes of a file. -/

/-- Settles O17, along the clauses of the decoder. -/
theorem bytesDecodeInPairs : Obligations.BytesDecodeInPairs := by
  intro bytes
  match bytes with
  | [] => simp [decodeBytes]
  | [_] => simp [decodeBytes]
  | a :: b :: rest =>
    refine ⟨fun i rest' => ?_, by simp [decodeBytes], by simp [decodeBytes]⟩
    simp only [decodeBytes, assemble_eq_append, Except.ok.injEq, Prod.mk.injEq]
    constructor
    · rintro ⟨rfl, rfl⟩
      exact ⟨a, b, rfl, rfl⟩
    · rintro ⟨a', b', heq, rfl⟩
      obtain ⟨rfl, rfl, rfl⟩ : a = a' ∧ b = b' ∧ rest = rest' := by simpa using heq
      exact ⟨rfl, rfl⟩

theorem length_opcodesOf (bytes : List Byte) : (opcodesOf bytes).length = bytes.length / 2 := by
  induction bytes using opcodesOf.induct with
  | case1 first second rest ih => simp only [opcodesOf, List.length_cons, ih]; omega
  | case2 b => simp [opcodesOf]
  | case3 => rfl

/-- Opcode `k` of a file is formed from its bytes `2k` and `2k+1` (R32). -/
theorem getElem?_opcodesOf (bytes : List Byte) (k : Nat) (w : Word) : (opcodesOf bytes)[k]? = some w ↔
    ∃ a b, bytes[2 * k]? = some a ∧ bytes[2 * k + 1]? = some b ∧ w = assemble a b := by
  induction bytes using opcodesOf.induct generalizing k with
  | case1 first second rest ih =>
    cases k with
    | zero => simp [opcodesOf, eq_comm]
    | succ k => simpa [opcodesOf, Nat.mul_add] using ih k
  | case2 b => simp [opcodesOf]
  | case3 => simp [opcodesOf]

/-- The first opcodes of a file are those of its first bytes. -/
theorem take_opcodesOf (bytes : List Byte) (k : Nat) : (opcodesOf bytes).take k = opcodesOf (bytes.take (2 * k)) := by
  induction bytes using opcodesOf.induct generalizing k with
  | case1 first second rest ih =>
    cases k with
    | zero => rfl
    | succ k => simp [opcodesOf, Nat.mul_add, ih]
  | case2 b => cases k <;> simp [opcodesOf, Nat.mul_add]
  | case3 => simp [opcodesOf]

/-- Settles O43: the opcodes by their number and each by its two bytes. -/
theorem opcodesAreTheEvenPairs : Obligations.OpcodesAreTheEvenPairs := by
  refine fun bytes => ⟨length_opcodesOf bytes, fun k a b ha hb => ?_⟩
  exact (getElem?_opcodesOf bytes k (a ++ b)).2 ⟨a, b, ha, hb, (assemble_eq_append a b).symm⟩

/-! Where the driver stands. -/

/-- The driver has a file placed and has passed `k` of its opcodes, and has taken their records (R32, R117). -/
structure HasPassed (bytes : List Byte) (k : Nat) (s : State) : Prop where
  placed  : s.rom = romImage bytes
  passed  : s.offset = 2 * k
  inFile  : k ≤ (opcodesOf bytes).length
  taken   : s.records = ((opcodesOf bytes).take k).map decode

/-- The invariant of Safety.lean says besides that the outputs are settled. -/
theorem consistent_iff (s : State) :
    s.Consistent ↔ s.out = decode s.opcode ∧ HasPassed (romBytes s.rom) (s.offset / 2) s := by
  constructor
  · rintro ⟨hsettled, hplaced, heven, hinFile, htaken⟩
    refine ⟨hsettled, hplaced, by omega, ?_, htaken⟩
    rw [length_opcodesOf, length_romBytes]
    omega
  · rintro ⟨hsettled, hplaced, hpassed, hinFile, htaken⟩
    rw [length_opcodesOf, length_romBytes] at hinFile
    exact ⟨hsettled, hplaced, by omega, by omega, htaken⟩

/-- A driver with settled outputs that stands in some file is consistent. -/
theorem HasPassed.consistent {bytes : List Byte} {k : Nat} {s : State} (h : HasPassed bytes k s)
    (hsettled : s.out = decode s.opcode) : s.Consistent := by
  have hbytes : romBytes s.rom = bytes := by rw [h.placed, romBytes_romImage]
  have hk : s.offset / 2 = k := by rw [h.passed]; omega
  exact (consistent_iff s).2 ⟨hsettled, by rwa [hbytes, hk]⟩

theorem HasPassed.nextOpcode_eq {bytes : List Byte} {k : Nat} {s : State} (h : HasPassed bytes k s) :
    nextOpcode s = (opcodesOf bytes)[k]? := by
  ext w
  rw [nextOpcode_eq_some, getElem?_opcodesOf, h.placed, h.passed, read_romImage, read_romImage]

/-- A turn of the driver takes it past the next opcode; past the last one it stays. -/
theorem HasPassed.of_step {bytes : List Byte} {k : Nat} {s t : State} (h : HasPassed bytes k s) (hstep : step s = .next t) :
    HasPassed bytes (min (k + 1) (opcodesOf bytes).length) t := by
  obtain ⟨hnone, rfl⟩ | ⟨w, hsome, rfl⟩ := step_cases hstep
  · rw [h.nextOpcode_eq, List.getElem?_eq_none_iff] at hnone
    have hk : min (k + 1) (opcodesOf bytes).length = k := by have := h.inFile; omega
    rwa [hk]
  · rw [h.nextOpcode_eq] at hsome
    obtain ⟨hlt, -⟩ := List.getElem?_eq_some_iff.1 hsome
    rw [Nat.min_eq_left hlt]
    refine ⟨h.placed, by simp only [h.passed]; omega, hlt, ?_⟩
    simp only [h.taken, List.take_add_one, hsome, List.map_append]
    rfl

/-- Settles O41: the outputs stay settled and the driver passes an opcode or stays. -/
theorem stepKeepsConsistent : Obligations.StepKeepsConsistent := by
  intro s t hs hstep
  obtain ⟨hsettled, hpassed⟩ := (consistent_iff s).1 hs
  exact (hpassed.of_step hstep).consistent (outputsAlwaysDecodeTheInput.2 s t hsettled hstep)

/-- Settles O38: a turn of the driver moves its offset, and no opcode is left past the last whole pair. -/
theorem runEndsAfterTheLastWholeOpcode : Obligations.RunEndsAfterTheLastWholeOpcode := by
  refine ⟨step_eq_self_iff, fun s hs => ?_⟩
  have heven := hs.even
  obtain ⟨-, hpassed⟩ := (consistent_iff s).1 hs
  rw [hpassed.nextOpcode_eq, List.getElem?_eq_none_iff, length_opcodesOf, length_romBytes]
  omega

theorem hasPassed_loadRom (bytes : List Byte) (s : State) : HasPassed bytes 0 (loadRom bytes s) :=
  ⟨rfl, rfl, Nat.zero_le _, rfl⟩

/-- Settles O40: at reset the empty file is placed. -/
theorem resetIsConsistent : Obligations.ResetIsConsistent :=
  ⟨(hasPassed_loadRom [] State.reset).consistent rfl, rfl, rfl, rfl, by decide, by decide⟩

/-- The lines of the records taken are those of the opcodes passed (R128). -/
theorem HasPassed.listing_eq {bytes : List Byte} {k : Nat} {s : State} (h : HasPassed bytes k s) :
    listing s = (disassembly bytes).take k := by
  rw [Machine.listing, h.taken, disassembly, ← List.map_take, List.map_map]
  rfl

/-- Settles O44: a consistent driver has passed the opcodes before its offset. -/
theorem listingIsTheLinesSoFar : Obligations.ListingIsTheLinesSoFar :=
  fun s hs => ((consistent_iff s).1 hs).2.listing_eq

theorem run_succ {s t : State} (h : step s = .next t) (steps : Nat) :
    Sys2Proof.core.run (steps + 1) s = Sys2Proof.core.run steps t := by
  have hcore : Sys2Proof.core.step s = .next t := h
  simp only [Host.Core.run, hcore]

/-- However many steps, by induction on their number. -/
theorem HasPassed.of_run {bytes : List Byte} {k : Nat} {s : State} (h : HasPassed bytes k s) (steps : Nat) :
    ∃ t, Sys2Proof.core.run steps s = .next t ∧ HasPassed bytes (min (k + steps) (opcodesOf bytes).length) t := by
  induction steps generalizing k s with
  | zero => exact ⟨s, rfl, by rwa [Nat.add_zero, Nat.min_eq_left h.inFile]⟩
  | succ steps ih =>
    obtain ⟨u, hu⟩ := goesOn s
    obtain ⟨t, hrun, ht⟩ := ih (h.of_step hu)
    refine ⟨t, ?_, ?_⟩
    · rw [run_succ hu, hrun]
    · have hk : min (k + (steps + 1)) (opcodesOf bytes).length =
          min (min (k + 1) (opcodesOf bytes).length + steps) (opcodesOf bytes).length := by omega
      rwa [hk]

/-- Settles O45: `k` steps pass `k` opcodes, or all of them. -/
theorem runIsTheDisassembly : Obligations.RunIsTheDisassembly := by
  intro bytes s k
  obtain ⟨t, hrun, ht⟩ := (hasPassed_loadRom bytes s).of_run k
  have hlength : (disassembly bytes).length = (opcodesOf bytes).length := List.length_map _
  rw [Nat.zero_add] at ht
  refine ⟨t, hrun, ?_, fun hk => ?_⟩
  · rw [ht.listing_eq, ← hlength]
    exact List.take_eq_take_min.symm
  · rw [← length_opcodesOf] at hk
    rw [Nat.min_eq_right hk] at ht
    refine ⟨?_, ?_, ?_⟩
    · rw [ht.listing_eq, ← hlength, List.take_length]
    · rw [ht.taken, List.take_length]
    · change (nextOpcode t).isNone = true
      rw [ht.nextOpcode_eq, List.getElem?_length]
      rfl

/-! Placing an opcode for the next fetch (log entry 6). -/

/-- A file with the byte at offset `k` replaced, or added at its end. -/
def putByte (k : Nat) (b : Byte) (bytes : List Byte) : List Byte := bytes.take k ++ b :: bytes.drop (k + 1)

theorem write_cellsFrom (a k : Nat) (b : Byte) {bytes : List Byte} (h : k ≤ bytes.length) :
    Memory.write (cellsFrom a bytes) (a + k) b = cellsFrom a (putByte k b bytes) := by
  induction bytes generalizing a k with
  | nil =>
    obtain rfl : k = 0 := Nat.le_zero.1 h
    rfl
  | cons c rest ih =>
    cases k with
    | zero => simp [putByte, cellsFrom, Memory.write]
    | succ k =>
      have hrest := ih (a + 1) k (Nat.le_of_succ_le_succ h)
      rw [show a + 1 + k = a + (k + 1) by omega] at hrest
      simp [putByte, cellsFrom, Memory.write, hrest]

theorem write_romImage (k : Nat) (b : Byte) {bytes : List Byte} (h : k ≤ bytes.length) :
    Memory.write (romImage bytes) k b = romImage (putByte k b bytes) := by
  simpa [romImage] using write_cellsFrom 0 k b h

theorem lt_length_putByte (k : Nat) (b : Byte) {bytes : List Byte} (h : k ≤ bytes.length) :
    k < (putByte k b bytes).length := by
  simp [putByte]
  omega

/-- The bytes before the one put are unchanged. -/
theorem take_putByte {j k : Nat} (b : Byte) {bytes : List Byte} (hjk : j ≤ k) (h : k ≤ bytes.length) :
    (putByte k b bytes).take j = bytes.take j := by
  rw [putByte, List.take_append_of_le_length (by simp; omega), List.take_take, Nat.min_eq_left hjk]

/-- The driver that has passed `k` opcodes of a file has passed the same of the file with a word put after them. -/
theorem HasPassed.of_place {bytes : List Byte} {k : Nat} {s : State} (h : HasPassed bytes k s) (w : Word) :
    HasPassed (putByte (2 * k + 1) (secondByte w) (putByte (2 * k) (firstByte w) bytes)) k (placeNextOpcode w s) := by
  have hk : 2 * k ≤ bytes.length := by have := length_opcodesOf bytes; have := h.inFile; omega
  have hk' : 2 * k + 1 ≤ (putByte (2 * k) (firstByte w) bytes).length := lt_length_putByte _ _ hk
  have htake : (opcodesOf (putByte (2 * k + 1) (secondByte w) (putByte (2 * k) (firstByte w) bytes))).take k =
      (opcodesOf bytes).take k := by
    rw [take_opcodesOf, take_opcodesOf, take_putByte _ (by omega) hk', take_putByte _ le_rfl hk]
  refine ⟨?_, h.passed, ?_, ?_⟩
  · rw [placeNextOpcode_rom, h.placed, h.passed, write_romImage _ _ hk, write_romImage _ _ hk']
  · have hlength := congrArg List.length htake
    rw [List.length_take, List.length_take, Nat.min_eq_left h.inFile] at hlength
    omega
  · rw [placeNextOpcode_records, h.taken, htake]

theorem tableWord_toNat (w : Word) : tableWord 16 w.toNat = w := by
  rw [tableWord, Nat.mod_eq_of_lt w.isLt, BitVec.ofNat_toNat, BitVec.setWidth_eq]

theorem withFetchWord_toNat (s : State) (w : Word) : s.withFetchWord 16 w.toNat = placeNextOpcode w s := by
  rw [State.withFetchWord, tableWord_toNat]

theorem nextOpcode_placeNextOpcode (s : State) (w : Word) : nextOpcode (placeNextOpcode w s) = some w := by
  rw [nextOpcode_eq_some]
  refine ⟨firstByte w, secondByte w, ?_, ?_, (assemble_bytes w).symm⟩
  · rw [read_placeNextOpcode, placeNextOpcode_offset, if_neg (Nat.succ_ne_self _).symm, if_pos rfl]
  · rw [read_placeNextOpcode, placeNextOpcode_offset, if_pos rfl]

/-- Settles O42: a placed file has none of its opcodes passed, and a placed word changes no byte before the offset. -/
theorem placedRomIsConsistent : Obligations.PlacedRomIsConsistent := by
  refine ⟨fun bytes s hs => (hasPassed_loadRom bytes s).consistent hs, fun s w => ?_⟩
  rw [withFetchWord_toNat]
  refine ⟨nextOpcode_placeNextOpcode s w, ?_, fun a h0 h1 => ?_, rfl, fun hs => ?_⟩
  · simp [decodeTableWord, decodeBytes, tableWord_toNat]
  · rw [read_placeNextOpcode, if_neg h1, if_neg h0]
  · obtain ⟨hsettled, hpassed⟩ := (consistent_iff s).1 hs
    exact (hpassed.of_place w).consistent hsettled

end Sys2Proof.Proofs
end

section
/-! PROOFS. Numerals: `dec` and `hex4` write digits of which the number can be read back (R7, R122). -/

namespace Sys2Proof.Proofs

open Sys2Proof Sys2Proof.Machine Sys2Proof.Laws

/-! Decimal. -/

theorem toNat_decChar {d : Nat} (h : d < 10) : (decChar d).toNat = 48 + d := by
  interval_cases d <;> rfl

theorem isDigit_decChar {d : Nat} (h : d < 10) : (decChar d).isDigit = true := by
  interval_cases d <;> rfl

/-- A list of characters read as a decimal numeral. -/
def decValue (cs : List Char) : Nat := cs.foldl (fun acc c => 10 * acc + (c.toNat - 48)) 0

theorem decValue_concat (cs : List Char) (c : Char) : decValue (cs ++ [c]) = 10 * decValue cs + (c.toNat - 48) :=
  List.foldl_concat ..

theorem isDigit_of_mem_decDigits {fuel v : Nat} {c : Char} (h : c ∈ decDigits fuel v) : c.isDigit = true := by
  induction fuel generalizing v with
  | zero => cases h
  | succ k ih =>
    rw [decDigits] at h
    split at h
    · rw [List.mem_singleton.1 h]
      exact isDigit_decChar ‹_›
    · obtain h | h := List.mem_append.1 h
      · exact ih h
      · rw [List.mem_singleton.1 h]
        exact isDigit_decChar (Nat.mod_lt v (by decide))

theorem decDigits_ne_nil {fuel v : Nat} (h : v < fuel) : decDigits fuel v ≠ [] := by
  cases fuel with
  | zero => cases h
  | succ k =>
    rw [decDigits]
    split <;> simp

/-- With enough fuel the digits have the value of the number. -/
theorem decValue_decDigits {fuel v : Nat} (h : v < fuel) : decValue (decDigits fuel v) = v := by
  induction fuel generalizing v with
  | zero => cases h
  | succ k ih =>
    rw [decDigits]
    split
    · simp only [decValue, List.foldl_cons, List.foldl_nil, toNat_decChar ‹_›]
      omega
    · rw [decValue_concat, ih (by omega), toNat_decChar (Nat.mod_lt v (by decide))]
      omega

/-- With enough fuel the first digit is 0 only for zero. -/
theorem eq_zero_of_head?_decDigits {fuel v : Nat} (h : v < fuel) (hhead : (decDigits fuel v).head? = some '0') : v = 0 := by
  induction fuel generalizing v with
  | zero => cases h
  | succ k ih =>
    rw [decDigits] at hhead
    split at hhead
    · have hchar : (decChar v).toNat = '0'.toNat := congrArg Char.toNat (Option.some.inj hhead)
      have hzero : '0'.toNat = 48 := rfl
      rw [toNat_decChar ‹_›, hzero] at hchar
      omega
    · have hk : v / 10 < k := by omega
      rw [List.head?_append_of_ne_nil _ (decDigits_ne_nil hk)] at hhead
      have := ih hk hhead
      omega

theorem toList_dec (v : Nat) : (dec v).toList = decDigits (v + 1) v := String.toList_ofList

theorem toList_dec_ne_nil (v : Nat) : (dec v).toList ≠ [] := toList_dec v ▸ decDigits_ne_nil (Nat.lt_succ_self v)

theorem isDigit_of_mem_dec {v : Nat} {c : Char} (h : c ∈ (dec v).toList) : c.isDigit = true :=
  isDigit_of_mem_decDigits (toList_dec v ▸ h)

theorem decValue_dec (v : Nat) : decValue (dec v).toList = v := toList_dec v ▸ decValue_decDigits (Nat.lt_succ_self v)

theorem isDigit_iff (c : Char) : c.isDigit = true ↔ '0' ≤ c ∧ c ≤ '9' := by
  simp [Char.isDigit, Char.le_def]

/-- Settles O46: the digits, the leading one and the value, each by induction on the fuel. -/
theorem decIsTheDecimalNumeral : Obligations.DecIsTheDecimalNumeral := by
  refine fun v => ⟨toList_dec_ne_nil v, fun c hc => (isDigit_iff c).1 (isDigit_of_mem_dec hc), fun hhead => ?_,
    decValue_dec v⟩
  rw [toList_dec] at hhead
  rw [eq_zero_of_head?_decDigits (Nat.lt_succ_self v) hhead]
  rfl

/-! Hexadecimal. -/

theorem hexChar_mem_digits (d : Nibble) : ('0' ≤ hexChar d ∧ hexChar d ≤ '9') ∨ ('a' ≤ hexChar d ∧ hexChar d ≤ 'f') := by
  revert d
  decide

theorem value_hexChar (d : Nibble) :
    (if hexChar d ≤ '9' then (hexChar d).toNat - 48 else (hexChar d).toNat - 87) = d.toNat := by
  revert d
  decide

theorem toList_hex4 (w : Word) :
    (hex4 w).toList = [hexChar (topOf w), hexChar (xOf w), hexChar (yOf w), hexChar (nOf w)] := String.toList_ofList

/-- The four digits have the value of the word. -/
theorem value_hex4 (w : Word) : (hex4 w).toList.foldl
    (fun acc c => 16 * acc + (if c ≤ '9' then c.toNat - 48 else c.toNat - 87)) 0 = w.toNat := by
  have hlt := w.isLt
  simp only [toList_hex4, List.foldl_cons, List.foldl_nil, value_hexChar, toNat_topOf, toNat_xOf, toNat_yOf, toNat_nOf]
  omega

theorem hex4_injective {w v : Word} (h : hex4 w = hex4 v) : w = v := by
  apply BitVec.eq_of_toNat_eq
  rw [← value_hex4, h, value_hex4]

/-- Settles O47: a digit for each nibble, and the value of the word from those of its nibbles. -/
theorem hexIsFourLowercaseDigits : Obligations.HexIsFourLowercaseDigits := by
  refine fun w => ⟨by simp [toList_hex4], fun c hc => ?_, value_hex4 w, by simp [line]⟩
  simp only [toList_hex4, List.mem_cons, List.not_mem_nil, or_false] at hc
  obtain rfl | rfl | rfl | rfl := hc <;> exact hexChar_mem_digits _

/-- Settles O48: the sixteen names, evaluated. -/
theorem registerNamesAreDecimal : Obligations.RegisterNamesAreDecimal := by
  unfold Obligations.RegisterNamesAreDecimal
  decide

end Sys2Proof.Proofs
end

section
/-! PROOFS. The renderer: the string of a record is a template with numerals in it, and template and numbers can be read back
(R121 to R130). -/

namespace Sys2Proof.Proofs

open Sys2Proof Sys2Proof.Machine Sys2Proof.Laws

/-- Settles O49, family by family: a template names used operands only. -/
theorem renderReadsOnlyUsedFields : Obligations.RenderReadsOnlyUsedFields := by
  rintro ⟨f, x, y, n, nn, nnn, raw, uses, unknown⟩ ⟨f', x', y', n', nn', nnn', raw', uses', unknown'⟩
    ⟨hf, hx, hy, hn, hnn, hnnn, hraw⟩
  dsimp only at *
  subst hf
  cases f <;> simp_all [usesOf, render]

theorem render_unknown {d : DecodedInstruction} (h : d.family = .unknown) : render d = "UNKNOWN 0x" ++ hex4 d.raw := by
  rw [render, h]

/-- No template of a defined family begins like the marker (R125). -/
theorem head?_render_ne {d : DecodedInstruction} (h : d.family ≠ .unknown) : (render d).toList.head? ≠ some 'U' := by
  obtain ⟨f, x, y, n, nn, nnn, raw, uses, unknown⟩ := d
  cases f
  case unknown => exact absurd rfl h
  all_goals simp [render, regName]

/-- Settles O51: the marker and four digits. -/
theorem unknownMarkerIsDistinguishable : Obligations.UnknownMarkerIsDistinguishable := by
  refine fun d => ⟨fun h => ⟨render_unknown h, ?_⟩, head?_render_ne⟩
  rw [render_unknown h]
  simp [toList_hex4]

/-- The template of a record of a defined family (R123): each number with the text before it, and the text after the last. A
register name and the figures that stand in a text are numbers too. -/
def template (d : DecodedInstruction) : List (String × Nat) × String :=
  match d.family with
  | .clearScreen => ([], "clear")
  | .ret => ([], "return")
  | .callMachineRoutine => ([("sys ", d.nnn.toNat)], "")
  | .jump => ([("jump ", d.nnn.toNat)], "")
  | .callSubroutine => ([("call ", d.nnn.toNat)], "")
  | .skipEqualImmediate => ([("skip if V", d.x.toNat), (" == ", d.nn.toNat)], "")
  | .skipNotEqualImmediate => ([("skip if V", d.x.toNat), (" != ", d.nn.toNat)], "")
  | .skipEqualRegister => ([("skip if V", d.x.toNat), (" == V", d.y.toNat)], "")
  | .setImmediate => ([("V", d.x.toNat), (" = ", d.nn.toNat)], "")
  | .addImmediate => ([("V", d.x.toNat), (" += ", d.nn.toNat)], "")
  | .assign => ([("V", d.x.toNat), (" = V", d.y.toNat)], "")
  | .or => ([("V", d.x.toNat), (" |= V", d.y.toNat)], "")
  | .and => ([("V", d.x.toNat), (" &= V", d.y.toNat)], "")
  | .xor => ([("V", d.x.toNat), (" ^= V", d.y.toNat)], "")
  | .addReg => ([("V", d.x.toNat), (" += V", d.y.toNat)], "")
  | .subReg => ([("V", d.x.toNat), (" -= V", d.y.toNat)], "")
  | .shiftRight => ([("V", d.x.toNat), (" = V", d.y.toNat), (" >> ", 1)], "")
  | .subReverse => ([("V", d.x.toNat), (" = V", d.y.toNat), (" - V", d.x.toNat)], "")
  | .shiftLeft => ([("V", d.x.toNat), (" = V", d.y.toNat), (" << ", 1)], "")
  | .skipNotEqualRegister => ([("skip if V", d.x.toNat), (" != V", d.y.toNat)], "")
  | .setIndex => ([("I = ", d.nnn.toNat)], "")
  | .jumpAddOffset => ([("jump V", 0), (" + ", d.nnn.toNat)], "")
  | .random => ([("V", d.x.toNat), (" = rand & ", d.nn.toNat)], "")
  | .draw => ([("draw V", d.x.toNat), (", V", d.y.toNat), (", ", d.n.toNat)], "")
  | .skipIfKeyPressed => ([("skip if key V", d.x.toNat)], "")
  | .skipIfKeyNotPressed => ([("skip if not key V", d.x.toNat)], "")
  | .getDelayTimer => ([("V", d.x.toNat)], " = delay")
  | .waitKey => ([("V", d.x.toNat)], " = key")
  | .setDelayTimer => ([("delay = V", d.x.toNat)], "")
  | .setSoundTimer => ([("sound = V", d.x.toNat)], "")
  | .addIndex => ([("I += V", d.x.toNat)], "")
  | .setIndexToSpriteAddr => ([("I = sprite V", d.x.toNat)], "")
  | .storeBCD => ([("bcd V", d.x.toNat)], "")
  | .dumpRegisters => ([("dump V", 0), ("..V", d.x.toNat)], "")
  | .loadRegisters => ([("load V", 0), ("..V", d.x.toNat)], "")
  | .unknown => ([], "")

/-- A template with its numbers written as decimal numerals. -/
def fill (parts : List (String × Nat)) (last : String) : List Char :=
  match parts with
  | [] => last.toList
  | (text, v) :: rest => text.toList ++ (dec v).toList ++ fill rest last

theorem dec_zero : dec 0 = "0" := rfl

theorem dec_one : dec 1 = "1" := rfl

theorem toList_render {d : DecodedInstruction} (h : d.family ≠ .unknown) :
    (render d).toList = fill (template d).1 (template d).2 := by
  obtain ⟨f, x, y, n, nn, nnn, raw, uses, unknown⟩ := d
  cases f
  case unknown => exact absurd rfl h
  all_goals simp [render, template, fill, regName, dec_zero, dec_one]

/-- The texts of the template of a family: those of its record with every operand 0. -/
def textsOf (f : Family) : List String × String :=
  let parts := template (record f 0x0000#16 (usesOf f) (unknownOf f))
  (parts.1.map Prod.fst, parts.2)

theorem textsOf_family (d : DecodedInstruction) : ((template d).1.map Prod.fst, (template d).2) = textsOf d.family := by
  obtain ⟨f, x, y, n, nn, nnn, raw, uses, unknown⟩ := d
  cases f <;> rfl

/-! Every character is printable (R130). -/

/-- The characters that may stand in a line (R130). -/
abbrev Printable (c : Char) : Prop := 0x20 ≤ c.toNat ∧ c.toNat ≤ 0x7E ∧
  (c.isAlphanum = true ∨ c ∈ [' ', '=', '+', '-', '|', '&', '^', '<', '>', '!', ',', '.', ':'])

theorem printable_of_isDigit {c : Char} (h : c.isDigit = true) : Printable c := by
  obtain ⟨hlow, hhigh⟩ := (isDigit_iff c).1 h
  have hlow' : 48 ≤ c.toNat := hlow
  have hhigh' : c.toNat ≤ 57 := hhigh
  exact ⟨by omega, by omega, .inl (by simp [Char.isAlphanum, h])⟩

theorem printable_hexChar (d : Nibble) : Printable (hexChar d) := by
  revert d
  decide

theorem printable_of_mem_hex4 {w : Word} {c : Char} (h : c ∈ (hex4 w).toList) : Printable c := by
  simp only [toList_hex4, List.mem_cons, List.not_mem_nil, or_false] at h
  obtain rfl | rfl | rfl | rfl := h <;> exact printable_hexChar _

/-- A filled template holds the characters of its texts, and digits. -/
theorem mem_fill {parts : List (String × Nat)} {last : String} {c : Char} (h : c ∈ fill parts last) :
    (∃ text ∈ parts.map Prod.fst, c ∈ text.toList) ∨ c ∈ last.toList ∨ c.isDigit = true := by
  induction parts with
  | nil => exact .inr (.inl h)
  | cons q rest ih =>
    rw [fill, List.append_assoc, List.mem_append, List.mem_append] at h
    obtain htext | hnumber | hrest := h
    · exact .inl ⟨q.1, List.mem_cons_self, htext⟩
    · exact .inr (.inr (isDigit_of_mem_dec hnumber))
    · obtain ⟨text, htext, hc⟩ | hc := ih hrest
      · exact .inl ⟨text, List.mem_cons_of_mem q.1 htext, hc⟩
      · exact .inr hc

theorem printable_textsOf (f : Family) : ((textsOf f).1.all fun text => text.toList.all fun c => decide (Printable c)) = true ∧
    ((textsOf f).2.toList.all fun c => decide (Printable c)) = true := by
  cases f <;> decide

theorem printable_of_mem_render {d : DecodedInstruction} {c : Char} (h : c ∈ (render d).toList) : Printable c := by
  by_cases hf : d.family = .unknown
  · rw [render_unknown hf, String.toList_append, List.mem_append] at h
    obtain h | h := h
    · have hmarker : ("UNKNOWN 0x".toList.all fun c => decide (Printable c)) = true := by decide
      exact of_decide_eq_true (List.all_eq_true.1 hmarker c h)
    · exact printable_of_mem_hex4 h
  · obtain ⟨htexts, hlast⟩ := textsOf_family d ▸ printable_textsOf d.family
    rw [toList_render hf] at h
    obtain ⟨text, htext, hc⟩ | hc | hdigit := mem_fill h
    · exact of_decide_eq_true (List.all_eq_true.1 (List.all_eq_true.1 htexts text htext) c hc)
    · exact of_decide_eq_true (List.all_eq_true.1 hlast c hc)
    · exact printable_of_isDigit hdigit

/-- Settles O52: a string is texts and digits, and a line adds a colon and a space. -/
theorem linesArePrintableAscii : Obligations.LinesArePrintableAscii := by
  rintro c (⟨d, hd⟩ | ⟨w, hw⟩)
  · exact printable_of_mem_render hd
  · rw [(hexIsFourLowercaseDigits w).2.2.2, List.mem_append, List.mem_append] at hw
    obtain (hhex | hseparator) | hrender := hw
    · exact printable_of_mem_hex4 hhex
    · have hmarks : ([':', ' '].all fun c => decide (Printable c)) = true := by decide
      exact of_decide_eq_true (List.all_eq_true.1 hmarks c hseparator)
    · exact printable_of_mem_render hrender

/-! Template and numbers are read back from the string (R126): no text holds a digit, so the runs of digits are the numbers. -/

/-- No character is a digit. -/
def Digitless (cs : List Char) : Prop := ∀ c ∈ cs, c.isDigit = false

/-- The texts of a template hold no digit, and none before a number is empty, so that two numbers never touch. -/
structure Separated (parts : List (String × Nat)) (last : String) : Prop where
  nonempty : ∀ q ∈ parts, q.1.toList ≠ []
  plain    : ∀ q ∈ parts, Digitless q.1.toList
  last     : Digitless last.toList

/-- Where two lists are each cut before the first character of the other kind, they are cut alike. -/
theorem append_inj_of_cut {p : Char → Bool} {a a' b b' : List Char} (ha : ∀ c ∈ a, p c = true) (ha' : ∀ c ∈ a', p c = true)
    (hb : ∀ c ∈ b.head?, p c = false) (hb' : ∀ c ∈ b'.head?, p c = false) (h : a ++ b = a' ++ b') : a = a' ∧ b = b' := by
  induction a generalizing a' with
  | nil =>
    cases a' with
    | nil => exact ⟨rfl, h⟩
    | cons c a' =>
      have hb := hb c (by simp only [List.nil_append] at h; simp [h])
      simp [ha' c List.mem_cons_self] at hb
  | cons c a ih =>
    cases a' with
    | nil =>
      have hb' := hb' c (by simp only [List.nil_append] at h; simp [← h])
      simp [ha c List.mem_cons_self] at hb'
    | cons c' a' =>
      obtain ⟨rfl, hrest⟩ := List.cons.inj h
      obtain ⟨rfl, hb⟩ := ih (fun c hc => ha c (List.mem_cons_of_mem _ hc)) (fun c hc => ha' c (List.mem_cons_of_mem _ hc)) hrest
      exact ⟨rfl, hb⟩

/-- After a number comes no digit. -/
theorem Separated.isDigit_head?_fill {parts : List (String × Nat)} {last : String} (h : Separated parts last) :
    ∀ c ∈ (fill parts last).head?, c.isDigit = false := by
  intro c hc
  cases parts with
  | nil => exact h.last c (List.mem_of_mem_head? hc)
  | cons q rest =>
    rw [fill, List.append_assoc, List.head?_append_of_ne_nil _ (h.nonempty q List.mem_cons_self)] at hc
    exact h.plain q List.mem_cons_self c (List.mem_of_mem_head? hc)

theorem Separated.tail {q : String × Nat} {parts : List (String × Nat)} {last : String} (h : Separated (q :: parts) last) :
    Separated parts last :=
  ⟨fun p hp => h.nonempty p (List.mem_cons_of_mem q hp), fun p hp => h.plain p (List.mem_cons_of_mem q hp), h.last⟩

/-- A number begins with a digit, whatever follows it. -/
theorem isDigit_head?_dec_append (v : Nat) (cs : List Char) : ∀ c ∈ ((dec v).toList ++ cs).head?, c.isDigit = true := by
  intro c hc
  rw [List.head?_append_of_ne_nil _ (toList_dec_ne_nil v)] at hc
  exact isDigit_of_mem_dec (List.mem_of_mem_head? hc)

theorem not_digitless_fill_cons (q : String × Nat) (parts : List (String × Nat)) (last : String) :
    ¬ Digitless (fill (q :: parts) last) := by
  intro h
  obtain ⟨c, hc⟩ := List.exists_mem_of_ne_nil _ (toList_dec_ne_nil q.2)
  have hplain := h c (by simp [fill, hc])
  rw [isDigit_of_mem_dec hc] at hplain
  cases hplain

/-- Two separated templates that fill to the same string are the same, with the same numbers. -/
theorem fill_injective {parts parts' : List (String × Nat)} {last last' : String} (hs : Separated parts last)
    (hs' : Separated parts' last') (h : fill parts last = fill parts' last') : parts = parts' ∧ last = last' := by
  induction parts generalizing parts' with
  | nil =>
    cases parts' with
    | nil => exact ⟨rfl, String.toList_inj.1 h⟩
    | cons q' rest' => exact absurd (h ▸ hs.last) (not_digitless_fill_cons q' rest' last')
  | cons q rest ih =>
    cases parts' with
    | nil => exact absurd (h.symm ▸ hs'.last) (not_digitless_fill_cons q rest last)
    | cons q' rest' =>
      obtain ⟨text, v⟩ := q
      obtain ⟨text', v'⟩ := q'
      simp only [fill, List.append_assoc] at h
      obtain ⟨htext, hnumber⟩ := append_inj_of_cut (p := fun c => !c.isDigit)
        (fun c hc => by simp [hs.plain _ List.mem_cons_self c hc]) (fun c hc => by simp [hs'.plain _ List.mem_cons_self c hc])
        (fun c hc => by simp [isDigit_head?_dec_append _ _ c hc]) (fun c hc => by simp [isDigit_head?_dec_append _ _ c hc]) h
      obtain ⟨hdigits, hrest⟩ := append_inj_of_cut (p := Char.isDigit) (fun c => isDigit_of_mem_dec) (fun c => isDigit_of_mem_dec)
        hs.tail.isDigit_head?_fill hs'.tail.isDigit_head?_fill hnumber
      obtain ⟨rfl, rfl⟩ := ih hs.tail hs'.tail hrest
      obtain rfl := String.toList_inj.1 htext
      have hv : v = v' := by rw [← decValue_dec v, hdigits, decValue_dec]
      rw [hv]
      exact ⟨rfl, rfl⟩

/-- The templates of the model. -/
theorem separated_template (d : DecodedInstruction) : Separated (template d).1 (template d).2 := by
  obtain ⟨f, x, y, n, nn, nnn, raw, uses, unknown⟩ := d
  cases f <;> constructor <;> simp [template, Digitless]

/-- No two defined families have the same texts. -/
theorem textsOf_injective {f g : Family} (hf : f ≠ .unknown) (hg : g ≠ .unknown) (h : textsOf f = textsOf g) : f = g := by
  obtain ⟨r, hr, rfl⟩ := exists_definedRow f hf
  obtain ⟨q, hq, rfl⟩ := exists_definedRow g hg
  have hrows : r = q := List.inj_on_of_nodup_map (f := fun r => textsOf r.family) (by decide) hr hq h
  rw [hrows]

/-- The numbers of a template are those of the used operands, and hold each of them. -/
theorem sameInstruction_of_template_eq {d e : DecodedInstruction} (hf : d.family = e.family) (hdefined : d.family ≠ .unknown)
    (h : (template d).1 = (template e).1) : SameInstruction d e := by
  obtain ⟨f, x, y, n, nn, nnn, raw, uses, unknown⟩ := d
  obtain ⟨f', x', y', n', nn', nnn', raw', uses', unknown'⟩ := e
  dsimp only at hf hdefined
  subst hf
  cases f <;> simp_all [SameInstruction, template, usesOf, BitVec.toNat_inj]

theorem sameInstruction_of_render_eq {d e : DecodedInstruction} (h : render d = render e) : SameInstruction d e := by
  by_cases hd : d.family = .unknown
  · by_cases he : e.family = .unknown
    · rw [render_unknown hd, render_unknown he] at h
      have hraw : d.raw = e.raw := hex4_injective (String.append_right_inj _ |>.1 h)
      simp [SameInstruction, hd, he, usesOf, hraw]
    · exact absurd (by rw [← h, render_unknown hd]; simp) (head?_render_ne he)
  · by_cases he : e.family = .unknown
    · exact absurd (by rw [h, render_unknown he]; simp) (head?_render_ne hd)
    · have hfill : fill (template d).1 (template d).2 = fill (template e).1 (template e).2 := by
        rw [← toList_render hd, ← toList_render he, h]
      obtain ⟨hparts, hlast⟩ := fill_injective (separated_template d) (separated_template e) hfill
      have hf : d.family = e.family :=
        textsOf_injective hd he (by rw [← textsOf_family, ← textsOf_family, hparts, hlast])
      exact sameInstruction_of_template_eq hf hd hparts

/-- Settles O50: the string gives the family and the used operands back, and they give the opcode back. -/
theorem renderIsInjective : Obligations.RenderIsInjective :=
  ⟨fun _ _ => sameInstruction_of_render_eq, fun w v h => (sameInstructionIsSameWord w v).1 (sameInstruction_of_render_eq h)⟩

end Sys2Proof.Proofs
end
